-- ==== Sys2Proof/Word.lean ====
section
/-! DEFINITION. The word types of the KF-340: the widths the manual gives its bytes, half-words, words and names. -/

namespace Sys2Proof

/-- A byte of the cell link (R165, R193). -/
abbrev Byte := BitVec 8

/-- A half-word of the raster port, and every 16-bit field of the part (R69, R193). -/
abbrev Half := BitVec 16

/-- A 32-bit word of a raster, of the FIFO and of a bank (R70, R91). -/
abbrev Word := BitVec 32

/-- A 40-bit account number (R21). -/
abbrev Account := BitVec 40

/-- A node of the cell link, 0 to 15; node 0 is the supervisor (R164, R169). -/
abbrev Node := BitVec 4

/-- A handle: 10 bits of entry index and 6 bits of stamp (section 2.2, R193). -/
abbrev Handle := BitVec 16

/-- The stamp of a directory entry, 0 to 63 (R23). -/
abbrev Stamp := BitVec 6

/-- A magazine slot, 0 to 5 (R1). -/
abbrev Slot := Fin 6

/-- An entry of the placement directory, 0 to 1,023 (R23). -/
abbrev Entry := Fin 1024

/-- A dose class, 0 to 7 (R21). -/
abbrev DoseClass := Fin 8

/-- A measured open time in whole milliseconds, 0 to 4,000 (R112, R135). -/
abbrev OpenMs := Fin 4001

end Sys2Proof
end

