-- ==== Sys2Proof/Config.lean ====
section
/-! DEFINITION. The constants of the part: sizes of its tables and buffers and the codes that are the same in every layout. One free
value stands here: which of several records a LOOKUP names where the manual does not say. -/

namespace Sys2Proof.Config

/-- Words of one bank: 1,536 rows of 64 words (R91). -/
def bankWords : Nat := 98304

/-- Rows of one bank (R91). -/
def bankRows : Nat := 1536

/-- Words of one row (R91). -/
def rowWords : Nat := 64

/-- Capacity of the raster port's FIFO in words (R70). -/
def fifoWords : Nat := 64

/-- The fixed 16-bit value that opens every raster header and every listing (R195). -/
def marker : Half := 0x6B2D

/-- The free-entry count below which DLO is set (R27). -/
def lowEntries : Nat := 32

/-- The target value that addresses the writer group (R169). -/
def groupTarget : BitVec 5 := 31

/-- The supervisor, node 0 (R169). -/
def supervisor : Node := 0

/-- The ceiling of the exposure limit L in milliseconds (R133). -/
def limitCeilingMs : Nat := 4000

/-- The floor of the exposure limit L in milliseconds (R133). -/
def limitFloorMs : Nat := 20

/-- The least dose target (R131). -/
def leastTarget : Nat := 16

/-- The class factor of an index or title job (R132). -/
def indexFactor : Nat := 64

/-- The open time from which a normal end updates the lamp rate (R136). -/
def rateUpdateMs : Nat := 10

/-- What a word of bank memory that no fill has written reads as. DESIGN CHOICE (log entry 16): the manual calls the contents of a bank
after a reset "of no meaning" (R104); unsafe where a claim rests on the value. -/
def unlistedWord : Word := 0

/-- A free value, with no body: which of `count` records that carry the key at place `order` of the order of keys, none of them WITHDRAWN, a
LOOKUP or a DUPLICATE answer names. DESIGN CHOICE (log entry 22): R31 and R35 speak of the one record that is not WITHDRAWN, and the loss of a
master's WITHDRAWN records (R49) can leave several. Safe: nothing constrains it. -/
opaque freeChoice (order count : Nat) : Nat

end Sys2Proof.Config
end

