-- ==== Sys2Proof/Syntax.lean ====
section
/-! DEFINITION. The commands of the part: one constructor of `Instr` for each row of the table of operations and events, with the
operands the row's rule gives it. -/

namespace Sys2Proof

/-- The key of a record: account, cycle and page (R21). Cycle and page travel as one byte each (R193). -/
structure Key where
  account : Account
  cycle   : Byte
  page    : Byte
  deriving DecidableEq, Repr

/-- How a request reached this writer: by its node ID, or by the writer group (R172). -/
inductive Addressing where
  | direct
  | group
  deriving DecidableEq, Repr

/-- What the line shows of a cut-off tail (R174). `unsettled` is the cut-off report alone: its cause follows in a later event. -/
inductive CutCause where
  | lostArbitration
  | bitError
  | breakPulse
  | invalidSymbol
  | unsettled
  deriving DecidableEq, Repr

/-- What the pins of the cell link show as a reset ends: STRAP[3:0], and whether LINK is recessive (R181, R182). -/
structure LinkPins where
  strap     : Node
  recessive : Bool
  deriving DecidableEq, Repr

/-- An edge of STROBE inbound: the half-word on DATA, and whether READY, which fell at the edge before, has risen again (R69; log entry 30). -/
structure StrobeEdge where
  data  : Half
  risen : Bool
  deriving DecidableEq, Repr

/-- The commands, in the table's order. Each request row carries how it was addressed, the source node of its request portion and its
parameters as the layouts of R193 give them; a row with an open time carries the time the shutter has stood open (R112). -/
inductive Instr where
  /-- R1: the raw level on a slot's PLATE input becomes `level` (high: a plate is present). -/
  | plateLevelChange (slot : Slot) (level : Bool)
  /-- R1: a slot's settle timer expires. -/
  | plateSettleExpiry (slot : Slot)
  /-- R119: the sequencer takes the Master Table's oldest removal report. -/
  | plateRemovalReport
  /-- R190. -/
  | status (dst : Addressing) (src : Node) (clear : Byte)
  /-- R9. -/
  | masterOpen (dst : Addressing) (src : Node) (slot format : Byte) (label : Half) (low high : Account)
  /-- R11. -/
  | masterClose (dst : Addressing) (src : Node) (slot : Byte)
  /-- R15. -/
  | masterState (dst : Addressing) (src : Node) (slot : Byte)
  /-- R16. -/
  | masterRelease (dst : Addressing) (src : Node) (slot : Byte)
  /-- R31. -/
  | place (dst : Addressing) (src : Node) (key : Key) (cls : Byte)
  /-- R35: a direct LOOKUP. -/
  | lookup (src : Node) (key : Key)
  /-- R36: a LOOKUP sent to the writer group. -/
  | groupLookup (src : Node) (key : Key)
  /-- R37. -/
  | fetch (dst : Addressing) (src : Node) (handle : Handle)
  /-- R38. -/
  | rekey (dst : Addressing) (src : Node) (handle : Handle) (key : Key)
  /-- R41. -/
  | setClass (dst : Addressing) (src : Node) (handle : Handle) (cls : Byte)
  /-- R42. -/
  | retire (dst : Addressing) (src : Node) (handle : Handle)
  /-- R46. -/
  | replace (dst : Addressing) (src : Node) (handle : Handle)
  /-- R152. -/
  | indexRead (dst : Addressing) (src : Node) (slot page : Byte)
  /-- R154. -/
  | listing (dst : Addressing) (src : Node) (slot : Byte)
  /-- R159. -/
  | titleSummary (dst : Addressing) (src : Node) (slot : Byte)
  /-- R123. -/
  | halt (dst : Addressing) (src : Node)
  /-- R124. -/
  | resume (dst : Addressing) (src : Node)
  /-- R138. -/
  | calibrate (dst : Addressing) (src : Node) (flag : Byte)
  /-- R144. -/
  | setDose (dst : Addressing) (src : Node) (table index : Byte) (value : Half)
  /-- R145. -/
  | setTrim (dst : Addressing) (src : Node) (slot value : Byte)
  /-- R143. -/
  | setLamp (dst : Addressing) (src : Node) (duty : Byte)
  /-- R168: a pulse judged an opening mark. -/
  | openingMark
  /-- R172: the turn gap ends; `bits` are the bits judged since the opening mark, in order of arrival. -/
  | turnGapEnd (bits : List Bool)
  /-- R166: a pulse judged invalid. -/
  | invalidSymbol
  /-- R180: a dominant pulse reaches 50 µs. -/
  | breakPulse
  /-- R167: 50 µs of recessive in SYNC. -/
  | closeGap
  /-- R173: the last bit period of the tail ends, every bit good. -/
  | tailComplete
  /-- R174: bit `bit` of the tail (counted from 0) is not good. -/
  | tailCutOff (bit : Nat) (cause : CutCause)
  /-- R191: the first bit period of the status byte begins. -/
  | statusByteRead
  /-- R177: the winning roll byte ends and the next slot begins. -/
  | rollSlotStart
  /-- R177: a gap seen in ROLL_WAIT. -/
  | rollGap
  /-- R69: a rising edge of STROBE inbound, with the half-word on DATA. -/
  | halfWordIn (edge : StrobeEdge)
  /-- R71. -/
  | headerTaken
  /-- R72. -/
  | headerExamination
  /-- R78: the last data word of a fill is moved. -/
  | fillEnd
  /-- R80: the last data word of a drained raster is consumed. -/
  | drainComplete
  /-- R83: FLUSH rises while ATTENTION stands at `attention`. -/
  | flush (attention : Bool)
  /-- R85: DIR rises. -/
  | dirRise
  /-- R85: the effective direction becomes outbound. -/
  | directionOutbound
  /-- R85: DIR falls. -/
  | dirFall
  /-- R86: a queued listing begins. -/
  | listingBegin
  /-- R88: a rising edge of STROBE outbound. -/
  | halfWordOut
  /-- R108. -/
  | jobTake
  /-- R100: PNL_SHOW rises. -/
  | pnlShow
  /-- R101: PANEL_READY rises. -/
  | panelReady
  /-- R64: MOT_GO rises at the end of the move message. -/
  | motGo
  /-- R65: IN_POSITION rises. -/
  | inPosition
  /-- R66: MOTION_FAULT rises. -/
  | motionFault
  /-- R67: the move timer reaches 2,000 ms. -/
  | moveTimerExpiry
  /-- R111: the panel timer reaches 500 ms. -/
  | panelTimeout
  /-- R110: the shutter opens. -/
  | shutterOpen
  /-- R130: a rising edge on PHOTO; `openMs` is the time the shutter has stood open, if it is open. -/
  | photoPulse (openMs : OpenMs)
  /-- R115: the edge on PHOTO that brings the count to T. -/
  | countReachesT (openMs : OpenMs)
  /-- R116: the limit timer reaches L. -/
  | limitExpiry
  /-- R117: the lamp-dark window expires. -/
  | lampDarkExpiry
  /-- R139: the calibration gate reaches 100 ms. -/
  | gateEnd
  /-- R125: ATTENTION rises; `openMs` is the time the shutter has stood open, if it is open. -/
  | attention (openMs : OpenMs)
  /-- R18: the release deletion deletes its next record. -/
  | releaseDeletion
  /-- R19: the release deletion ends. -/
  | releaseEnd
  /-- R198: ATTENTION and FLUSH stand high together. -/
  | hardResetBegin
  /-- R198: the supply comes up. -/
  | powerUp
  /-- R199: the reset ends if the two lines let it, with the levels sampled at its end (bit k of `plates` is PLATEk). -/
  | hardResetEnd (link : LinkPins) (plates : BitVec 6) (dir attention flush : Bool)
  /-- R168: the twentieth byte of a request portion completes. -/
  | requestTooLong
  /-- R183: a pulse on LINK in SYNC. -/
  | syncCountRestart
  /-- R84: FLUSH falls. -/
  | flushFall
  /-- R142: a 256 µs period of LAMP_PWM begins. -/
  | pwmPeriodStart
  deriving DecidableEq, Repr

end Sys2Proof
end

