-- ==== Sys2Proof/WellFormed.lean ====
section
/-! DEFINITION. Well-formed commands: the bounds on operands that the operand types do not carry. -/

namespace Sys2Proof

/-- The bits of the longest tail: 25 bytes (R164, R176). -/
def longestTailBits : Nat := 200

/-- The bits of a request portion that has not yet completed its twentieth byte (R168). -/
def longestPortionBits : Nat := 160

/-- A command whose operands the line or the pins can show: a tail is cut off within its 25 bytes (R176), and a turn gap ends a request
portion that has not completed a twentieth byte (R168). Every other operand is bounded by its type; the values of request parameters are
checked by the requests themselves (R185). -/
def Instr.wellFormed : Instr → Bool
  | .tailCutOff bit _ => decide (bit < longestTailBits)
  | .turnGapEnd bits  => decide (bits.length < longestPortionBits)
  | .plateLevelChange _ _ | .plateSettleExpiry _ | .plateRemovalReport | .status _ _ _ | .masterOpen _ _ _ _ _ _ _
  | .masterClose _ _ _ | .masterState _ _ _ | .masterRelease _ _ _ | .place _ _ _ _ | .lookup _ _ | .groupLookup _ _
  | .fetch _ _ _ | .rekey _ _ _ _ | .setClass _ _ _ _ | .retire _ _ _ | .replace _ _ _ | .indexRead _ _ _ _
  | .listing _ _ _ | .titleSummary _ _ _ | .halt _ _ | .resume _ _ | .calibrate _ _ _ | .setDose _ _ _ _ _
  | .setTrim _ _ _ _ | .setLamp _ _ _ | .openingMark | .invalidSymbol | .breakPulse | .closeGap | .tailComplete
  | .statusByteRead | .rollSlotStart | .rollGap | .halfWordIn _ | .headerTaken | .headerExamination | .fillEnd
  | .drainComplete | .flush _ | .dirRise | .directionOutbound | .dirFall | .listingBegin | .halfWordOut | .jobTake
  | .pnlShow | .panelReady | .motGo | .inPosition | .motionFault | .moveTimerExpiry | .panelTimeout | .shutterOpen
  | .photoPulse _ | .countReachesT _ | .limitExpiry | .lampDarkExpiry | .gateEnd | .attention _ | .releaseDeletion
  | .releaseEnd | .hardResetBegin | .powerUp | .hardResetEnd _ _ _ _ _ | .requestTooLong | .syncCountRestart
  | .flushFall | .pwmPeriodStart => true

end Sys2Proof
end

