-- ==== Sys2Proof/Decode.lean ====
section
/-! DEFINITION. The decoder over the table of operations and events. No row of spec/opcode_table.json gives its command a pattern of bits,
so no word spells a command (log entry 20). The byte layouts of the cell link's request portion are read where the Link Interface hands a
request on (Sys2Proof/Machine/LinkFrames.lean). -/

namespace Sys2Proof

/-- The command that a word spells by the table's bits: none, because the table gives none of its rows any bits. DEDUCED, safe (log entry
20). -/
def decodeTableWord (_nbits _w : Nat) : Option Instr := none

end Sys2Proof
end

