-- ==== Sys2Proof/Machine/State.lean ====
section
/-! DEFINITION. The state of the part: one structure for each block of the manual, the state of the whole part, and the state right after a
hard reset. -/

namespace Sys2Proof.Machine

/-! ## Outcomes -/

/-- Why a step can stop with a fault: never. Every event of the manual has an effect the manual states, and every fault of the manual (link,
raster and path faults) is state of the part. -/
inductive Fault where
  deriving DecidableEq, Repr

/-- Why a step can be refused. -/
inductive Refusal where
  /-- Raised by an arm of `exec` for a row that has no meaning yet. Safe: nothing is claimed of it. No arm raises it now. -/
  | notModelled (mnemonic : String)
  deriving DecidableEq, Repr

/-! ## Plates and masters (chapter 1) -/

/-- The debounce filter of a slot (R1). `debounced` is also the plate present field of the slot's master record (R2). -/
structure PlateFilter where
  /-- The raw level of the PLATE input. -/
  raw       : Bool
  debounced : Bool
  /-- The 20 ms settle timer runs. -/
  settling  : Bool
  deriving DecidableEq, Repr

/-- The grid formats (R52). -/
inductive Format where
  | g1
  | g2
  | g3
  deriving DecidableEq, Repr

/-- The states of a cell (R54). -/
inductive CellState where
  | free
  | held
  | exposed
  | void
  | index
  | exposedIndex
  deriving DecidableEq, Repr

/-- The states of a master (R3). -/
inductive MasterState where
  | empty
  | loaded
  | opened
  | closing
  | settled
  | indexing
  | indexed
  | finished
  | releasing
  | spent
  | failed
  deriving DecidableEq, Repr

/-- Why a master failed (R2). -/
inductive FailureReason where
  | plateRemoved
  | indexSpoiled
  | titleSpoiled
  deriving DecidableEq, Repr

/-- The master fields, present from MASTER_OPEN to the end of the release deletion (R2). -/
structure MasterFields where
  format        : Format
  label         : Half
  accountLow    : Account
  accountHigh   : Account
  /-- Index parts exposed, 0 to 2. -/
  partsExposed  : Nat
  /-- Index bindings, 0 to 2. -/
  indexBindings : Nat
  /-- The cell map: the state of cell n is entry n. -/
  cells         : List CellState
  deriving DecidableEq, Repr

/-- The master record of a slot (R2); the slot is its place in the table. -/
structure Master where
  state      : MasterState
  fields     : Option MasterFields
  generation : Half
  failure    : Option FailureReason
  deriving DecidableEq, Repr

/-! ## The placement directory (chapter 2) -/

/-- The states of a record (R22). -/
inductive RecState where
  | awaiting
  | filling
  | loaded
  | inFlight
  | exposed
  | withdrawn
  | spoiled
  | lost
  deriving DecidableEq, Repr

/-- The two panel banks (R91). -/
inductive BankId where
  | a
  | b
  deriving DecidableEq, Repr

/-- A placement record (R21). Its handle is its entry with the entry's stamp. -/
structure Record where
  entry         : Entry
  key           : Key
  slot          : Slot
  cell          : Nat
  state         : RecState
  retirePending : Bool
  cls           : DoseClass
  source        : Node
  bank          : Option BankId
  /-- Open time in ms, 0 to 4,000. -/
  openTime      : Option Nat
  clamped       : Option Bool
  deriving DecidableEq, Repr

/-- The directory: a stamp for each entry, the free list from its head, and the records in key-table order (R23, R24, R28). -/
structure Directory where
  stamps   : Vector Stamp 1024
  freeList : List Entry
  keyTable : List Record
  deriving DecidableEq, Repr

/-! ## The raster port (chapter 4) -/

/-- What a fill keeps (R76, R77): its bank, the header's row count, data sum and handle field, the running sum and the words moved. -/
structure Fill where
  bank   : BankId
  rows   : Fin 1537
  sum    : Word
  handle : Half
  running : Word
  count  : Nat
  deriving DecidableEq, Repr

/-- The states of the stream decoder (section 4.2), with what each keeps. `drain` keeps the data words still to be consumed. -/
inductive Decoder where
  | header
  | waitBank
  | fill (f : Fill)
  | drain (left : Nat)
  | discard
  | listing
  deriving DecidableEq, Repr

/-- The effective direction of the port (R85). -/
inductive Direction where
  | inbound
  | outbound
  deriving DecidableEq, Repr

/-- The listing place (R86). -/
inductive ListingPlace where
  | empty
  | queued (slot : Slot)
  | inProgress (slot : Slot)
  deriving DecidableEq, Repr

/-- The marks of an index entry (R151). -/
inductive Mark where
  | current
  | withdrawn
  | pending
  | spoiled
  | lost
  deriving DecidableEq, Repr

/-- An entry of an index list (R151). -/
structure IndexEntry where
  key  : Key
  cell : Nat
  mark : Mark
  deriving DecidableEq, Repr

/-- The listing buffer (R87): the copy made as the listing began, and how many of its words have been loaded into the FIFO. -/
structure ListingBuffer where
  slot       : Slot
  generation : Half
  entries    : List IndexEntry
  loaded     : Nat
  deriving DecidableEq, Repr

/-- The reasons of a raster fault (R81). -/
inductive RasterReason where
  | none
  | badMarker
  | badRows
  | badKind
  | wrongHandle
  | wrongState
  | staleGeneration
  | sumMismatch
  | flushedMidRaster
  deriving DecidableEq, Repr

/-- The raster port (chapter 4). -/
structure RasterPort where
  /-- Up to 64 words, from the head (R70). -/
  fifo        : List Word
  /-- A low half-word waiting for its high half (R70). -/
  loneHalf    : Option Half
  decoder     : Decoder
  direction   : Direction
  place       : ListingPlace
  buffer      : Option ListingBuffer
  /-- Outbound: the low half of the word at the FIFO head has been sent (R88). -/
  lowSent     : Bool
  /-- A half-word has been taken at an edge of STROBE since the last hard reset: the model's own, for the level of READY before it rises again
  (R69, R88; log entry 30). -/
  strobed     : Bool
  faultReason : RasterReason
  faultHandle : Half
  deriving DecidableEq, Repr

/-! ## The panel store (chapter 5) -/

/-- One word of bank memory at its address in the bank: row × 64 + word in the row (R77). -/
abbrev BankCell := Nat × Word

/-- The states of a bank (R91). -/
inductive BankState where
  | free
  | filling
  | loaded
  | shown
  deriving DecidableEq, Repr

/-- What a bank's raster belongs to (R92). -/
inductive Binding where
  | record (handle : Handle)
  | index (slot : Slot) (part : Nat)
  | title (slot : Slot)
  deriving DecidableEq, Repr

/-- A bank (R91, R92): a FILLING bank without a binding is an orphan. Rows from `rows` on show dark (R76). `words` lists the written words,
addresses strictly rising, none equal to what an unlisted address reads as. -/
structure Bank where
  state   : BankState
  binding : Option Binding
  rows    : Nat
  words   : List BankCell
  deriving DecidableEq, Repr

/-- The panel store: the banks, the loaded-job queue from its head, and the panel interface (R95, R99). -/
structure PanelStore where
  bankA    : Bank
  bankB    : Bank
  queue    : List BankId
  selected : Option BankId
  awaiting : Bool
  /-- A SHOW has selected its bank and PNL_SHOW has not yet risen (R100). -/
  strobing : Bool
  /-- PNL_SHOW has risen since the last hard reset: the model's own, for the level of the pin (R100; log entry 23). -/
  showRisen : Bool
  deriving DecidableEq, Repr

/-! ## The exposure sequencer (chapter 6) -/

/-- The path states (R106). -/
inductive PathState where
  | idle
  | preparing
  | exposing
  | halted
  | faulted
  deriving DecidableEq, Repr

/-- The path fault reasons (R127). -/
inductive PathFault where
  | none
  | underdose
  | lampLow
  | lampDark
  | plateRemoved
  | motionTimeout
  | motionFault
  | panelTimeout
  deriving DecidableEq, Repr

/-- What a job exposes and where (R105): a document record's handle and cell, an index part, or the title. -/
inductive JobKind where
  | document (handle : Handle) (cell : Nat)
  | index (part : Nat)
  | title
  deriving DecidableEq, Repr

/-- The current job record (R105). -/
structure Job where
  bank       : BankId
  kind       : JobKind
  slot       : Slot
  /-- The dose target T in photocell counts. -/
  target     : Nat
  /-- The exposure limit L in ms. -/
  limitMs    : Nat
  fogLimit   : Nat
  arrived    : Bool
  panelReady : Bool
  deriving DecidableEq, Repr

/-- The exposure sequencer (R105). -/
structure Sequencer where
  path        : PathState
  haltPending : Bool
  fault       : PathFault
  job         : Option Job
  /-- The panel timer runs to its 500 ms limit. -/
  panelTimer  : Bool
  deriving DecidableEq, Repr

/-! ## The motion port (chapter 3) -/

/-- The states of the motion port (R63). -/
inductive PortState where
  | idle
  | sending
  | moving
  | draining
  deriving DecidableEq, Repr

/-- The positions of the projection turret (R52). -/
inductive Turret where
  | one
  | two
  | three
  deriving DecidableEq, Repr

/-- A move: x and y in motion steps and the turret (R63). -/
structure Target where
  x      : Nat
  y      : Nat
  turret : Turret
  deriving DecidableEq, Repr

/-- The motion port (R63). -/
structure MotionPort where
  port        : PortState
  target      : Option Target
  pendingMove : Option Target
  abandoned   : Bool
  /-- The turret in the optical path; `none` is unknown. -/
  turret      : Option Turret
  /-- The move timer runs to its 2,000 ms limit. -/
  moveTimer   : Bool
  /-- The 48-bit move message going out in SENDING (R64). -/
  message     : Option (BitVec 48)
  /-- MOT_GO has risen since the last hard reset: the model's own, for the level of the pin (R64; log entry 23). -/
  goRisen     : Bool
  deriving DecidableEq, Repr

/-! ## The dose unit (chapter 7) -/

/-- The modes of the photocell counter (R130). -/
inductive CounterMode where
  | idle
  | integrating
  | gating
  deriving DecidableEq, Repr

/-- The lamp-dark window (R129). -/
inductive DarkWindow where
  | stopped
  | running
  | spent
  deriving DecidableEq, Repr

/-- The calibration, with its set-reference flag (R129). A running calibration's gate timer runs to 100 ms. -/
inductive Calibration where
  | none
  | pending (setReference : Bool)
  | running (setReference : Bool)
  deriving DecidableEq, Repr

/-- The dose unit (R129). LMP is computed from `rate` and `reference` (R137). -/
structure DoseUnit where
  /-- The base table B, in the order G1, G2, G3. -/
  base        : Vector Half 3
  /-- The class table F, in 1/64. -/
  classes     : Vector Byte 8
  /-- The slot trims G, in 1/128. -/
  trims       : Vector Byte 6
  duty        : Byte
  heldDuty    : Option Byte
  /-- The lamp rate C. -/
  rate        : Half
  /-- The reference C_ref. -/
  reference   : Half
  counter     : CounterMode
  count       : Nat
  /-- The limit timer runs to the job's L. -/
  limitTimer  : Bool
  darkWindow  : DarkWindow
  /-- The open-time measurement runs. -/
  openTimer   : Bool
  calibration : Calibration
  /-- The gate timer runs to 100 ms. -/
  gateTimer   : Bool
  /-- How long LAMP_PWM is high in the present 256 µs period, in µs (R142). -/
  pwmHigh     : Byte
  deriving DecidableEq, Repr

/-! ## The link interface and the request unit (chapters 9 and 10) -/

/-- The result codes (R189). -/
inductive Result where
  | ok
  | busy
  | notFound
  | duplicate
  | outOfRange
  | masterFull
  | directoryFull
  | wrongState
  | badParam
  | unknown
  | denied
  | failedMaster
  deriving DecidableEq, Repr

/-- The interface states (R164). -/
inductive IfaceState where
  | off
  | sync
  | waitMark
  | request
  | answer
  | rollWait
  deriving DecidableEq, Repr

/-- The reasons of a link fault (R179). -/
inductive LinkReason where
  | none
  | badCrc
  | badLength
  | badSymbol
  | bitError
  deriving DecidableEq, Repr

/-- The receive buffer (R164): whole bytes, and the bits of the byte in assembly in order of arrival. -/
structure RxBuffer where
  bytes : List Byte
  bits  : List Bool
  deriving DecidableEq, Repr

/-- The bytes of a tail (R175, R176, R177). The status byte of a DATA tail is absent until it is read. -/
inductive TailBytes where
  | ack (head : Byte)
  | data (head : Byte) (status : Option Byte) (payload : List Byte)
  | roll (byte : Byte)
  deriving DecidableEq, Repr

/-- The tail buffer (R164): its bytes, the next bit to send as far as a command has told it, and whether it has been cut off with its cause
still open (R174). -/
structure Tail where
  bytes   : TailBytes
  nextBit : Nat
  cut     : Bool
  deriving DecidableEq, Repr

/-- The link interface (R164). -/
structure LinkInterface where
  nodeId   : Node
  iface    : IfaceState
  rx       : RxBuffer
  tail     : Option Tail
  fault    : LinkReason
  /-- The count of recessive time towards a close gap runs (R167, R183). -/
  gapCount : Bool
  deriving DecidableEq, Repr

/-- The pending answer of the request unit (R185): how the request was addressed, its code, the result code of its tail (none for a roll
byte) and the handle of the record it created. `clearing` is the model's own field: the answer is that of a direct STATUS with clear flag 1
from node 0, whose status byte clears the latched flags (R191; log entry 9). -/
structure PendingAnswer where
  dst      : Addressing
  code     : Byte
  result   : Option Result
  created  : Option Handle
  clearing : Bool
  deriving DecidableEq, Repr

/-! ## Supervision and pins (chapter 11) -/

/-- Whether a hard reset is under way, and what ends it (R198): both lines low, or the end of the power-up time. -/
inductive ResetPhase where
  | running
  | heldByLines
  | powerUp
  deriving DecidableEq, Repr

/-- Supervision: the four latched flags and the reset phase (R196, R198). -/
structure Supervision where
  lnk   : Bool
  ras   : Bool
  cls   : Bool
  plt   : Bool
  phase : ResetPhase
  deriving DecidableEq, Repr

/-- The input pins whose level matters, as last told: STRAP[3:0], DIR, ATTENTION and FLUSH. (PLATE[5:0] is `PlateFilter.raw`; the inputs that
act by an edge alone are commands.) -/
structure Pins where
  strap     : Node
  dir       : Bool
  attention : Bool
  flush     : Bool
  deriving DecidableEq, Repr

/-! ## The whole part -/

/-- The state of the part, and the queue of commands that wait. -/
structure State where
  /-- The waiting commands, first in, first out. -/
  pending        : List Instr
  pins           : Pins
  sup            : Supervision
  plates         : Vector PlateFilter 6
  masters        : Vector Master 6
  /-- The slots in RELEASING in order of entry (R17). -/
  releaseQueue   : List Slot
  /-- Removal reports of the Master Table that the sequencer has not yet taken, oldest first (R119; log entry 12). -/
  removalReports : List Slot
  dir            : Directory
  raster         : RasterPort
  panel          : PanelStore
  seq            : Sequencer
  motion         : MotionPort
  dose           : DoseUnit
  link           : LinkInterface
  answer         : Option PendingAnswer
  deriving DecidableEq, Repr

/-! ## The values after a hard reset -/

/-- A slot's filter after a reset whose sample of PLATE is `level` (R1). -/
def PlateFilter.reset (level : Bool) : PlateFilter :=
  { raw := level, debounced := level, settling := false }

/-- A slot's master after a reset whose sample of PLATE is `level` (R20). -/
def Master.reset (level : Bool) : Master :=
  { state := if level then .spent else .empty, fields := none, generation := 0, failure := none }

/-- The directory after a reset (R51). -/
def Directory.reset : Directory :=
  { stamps := Vector.replicate 1024 0, freeList := List.finRange 1024, keyTable := [] }

/-- The raster port after a reset that finds DIR at `dir` (R90). -/
def RasterPort.reset (dir : Bool) : RasterPort :=
  { fifo := [], loneHalf := none, decoder := .header, direction := if dir then .outbound else .inbound, place := .empty,
    buffer := none, lowSent := false, strobed := false, faultReason := .none, faultHandle := 0 }

/-- A bank after a reset (R104); its words stay, and have no meaning (log entry 16). -/
def Bank.reset (b : Bank) : Bank :=
  { b with state := .free, binding := none, rows := 0 }

/-- The panel store after a reset of `p` (R104). -/
def PanelStore.reset (p : PanelStore) : PanelStore :=
  { bankA := p.bankA.reset, bankB := p.bankB.reset, queue := [], selected := none, awaiting := false, strobing := false,
    showRisen := false }

/-- The sequencer after a reset (R128). -/
def Sequencer.reset : Sequencer :=
  { path := .idle, haltPending := false, fault := .none, job := none, panelTimer := false }

/-- The motion port after a reset (R63). -/
def MotionPort.reset : MotionPort :=
  { port := .idle, target := none, pendingMove := none, abandoned := false, turret := none, moveTimer := false, message := none,
    goRisen := false }

/-- The dose unit after a reset (R129, R142). -/
def DoseUnit.reset : DoseUnit :=
  { base := #v[9000, 12000, 7500], classes := #v[48, 52, 56, 60, 64, 72, 80, 96], trims := Vector.replicate 6 128, duty := 0,
    heldDuty := none, rate := 0, reference := 0, counter := .idle, count := 0, limitTimer := false, darkWindow := .stopped,
    openTimer := false, calibration := .none, gateTimer := false, pwmHigh := 0 }

/-- The link interface at the reset values that go with `strap` (R164, R181, R182). With a non-zero strap the count towards a close gap runs
from the end of the reset if LINK is recessive then (`counts`), and else from its next rising edge. -/
def LinkInterface.reset (strap : Node) (counts : Bool) : LinkInterface :=
  { nodeId := strap, iface := if strap = 0 then .off else .sync, rx := { bytes := [], bits := [] }, tail := none, fault := .none,
    gapCount := counts && decide (strap ≠ 0) }

/-- Supervision in phase `phase` of a reset that reads `strap`: every latched flag clear, but LNK where a reset ends with a strap of 0
(R181, R196). -/
def Supervision.reset (strap : Node) (phase : ResetPhase) : Supervision :=
  { lnk := decide (strap = 0 ∧ phase = .running), ras := false, cls := false, plt := false, phase := phase }

/-- Every block at its reset values, with the sampled levels `pins` and `plates` and LINK recessive or not (R199, R182). The commands that wait
stay. No close-gap count runs before the reset ends. -/
def State.hardReset (s : State) (phase : ResetPhase) (pins : Pins) (plates : Vector Bool 6) (recessive : Bool) : State :=
  { pending := s.pending, pins := pins, sup := .reset pins.strap phase, plates := plates.map .reset, masters := plates.map .reset,
    releaseQueue := [], removalReports := [], dir := .reset, raster := .reset pins.dir, panel := s.panel.reset, seq := .reset,
    motion := .reset, dose := .reset, link := .reset pins.strap (recessive && decide (phase = .running)), answer := none }

/-- The input levels at the model's reset: node strap 4, DIR, ATTENTION and FLUSH low (and LINK recessive, which `State.reset` reads). DESIGN
CHOICE (log entry 1): the manual gives input pins no level; unsafe. The strap is that of the worked session of section 11.3. -/
def Pins.atReset : Pins := { strap := 4, dir := false, attention := false, flush := false }

/-- A bank whose memory lists nothing. -/
def Bank.blank : Bank := { state := .free, binding := none, rows := 0, words := [] }

/-- The part right after a hard reset: no command waits, no plate is in the magazine, LINK is recessive (log entry 1), and every block holds the
values that its chapter gives (R199). -/
def State.reset : State :=
  { pending := [], pins := .atReset, sup := .reset 4 .running, plates := Vector.replicate 6 (.reset false),
    masters := Vector.replicate 6 (.reset false), releaseQueue := [], removalReports := [], dir := .reset, raster := .reset false,
    panel := { bankA := .blank, bankB := .blank, queue := [], selected := none, awaiting := false, strobing := false,
               showRisen := false },
    seq := .reset, motion := .reset, dose := .reset, link := .reset 4 true, answer := none }

end Sys2Proof.Machine
end

