-- ==== Sys2Proof/Machine/Ops.lean ====
section
/-! DEFINITION. Named operations over the state's parts: bank memory, master records, banks, the key table, and the guard that holds every
block in reset. -/

namespace Sys2Proof.Machine

/-! ## Bank memory -/

/-- The form every bank memory keeps: addresses strictly rising and inside the bank (R91), and no entry equal to what an unlisted address
reads as. -/
abbrev Memory.wf (m : List BankCell) : Prop :=
  m.Pairwise (fun p q => p.1 < q.1) ∧ ∀ p ∈ m, p.1 < Config.bankWords ∧ p.2 ≠ Config.unlistedWord

/-- The word at address `a` of a bank memory. -/
def Memory.read (m : List BankCell) (a : Nat) : Word :=
  match m with
  | [] => Config.unlistedWord
  | (b, v) :: rest => if a = b then v else Memory.read rest a

/-- A bank memory with word `w` written at address `a`. -/
def Memory.write (m : List BankCell) (a : Nat) (w : Word) : List BankCell :=
  match m with
  | [] => if w = Config.unlistedWord then [] else [(a, w)]
  | (b, v) :: rest =>
    if a < b then (if w = Config.unlistedWord then (b, v) :: rest else (a, w) :: (b, v) :: rest)
    else if a = b then (if w = Config.unlistedWord then rest else (a, w) :: rest)
    else (b, v) :: Memory.write rest a w

/-- What the panel shows at a word of a bank: dark (`none`) in the rows from the row count on (R76, R91). -/
def Bank.shownWord (b : Bank) (row word : Nat) : Option Word :=
  if row < b.rows then some (Memory.read b.words (row * Config.rowWords + word)) else none

/-! ## Masters -/

/-- The master record of a slot (R2). -/
def State.master (s : State) (sl : Slot) : Master := s.masters[sl]

/-- The state with the master record of a slot replaced. -/
def State.setMaster (s : State) (sl : Slot) (m : Master) : State :=
  { s with masters := s.masters.set sl m }

/-- The state with the master record of a slot changed by `f`. -/
def State.mapMaster (s : State) (sl : Slot) (f : Master → Master) : State :=
  s.setMaster sl (f (s.master sl))

/-- A master with its master fields, if it has them, changed by `f`. -/
def Master.mapFields (m : Master) (f : MasterFields → MasterFields) : Master :=
  { m with fields := m.fields.map f }

/-- The plate present field of a slot's master: the debounced plate state (R2). -/
def State.platePresent (s : State) (sl : Slot) : Bool := s.plates[sl].debounced

/-- The live states (R3). -/
def MasterState.live : MasterState → Bool
  | .opened | .closing | .settled | .indexing | .indexed => true
  | .empty | .loaded | .finished | .releasing | .spent | .failed => false

/-- The slot a parameter byte names, if it names one of 0 to 5. -/
def slotOf? (b : Byte) : Option Slot :=
  if h : b.toNat < 6 then some ⟨b.toNat, h⟩ else none

/-- The slots in ascending order. -/
def allSlots : List Slot := [0, 1, 2, 3, 4, 5]

/-! ## Banks -/

/-- A bank of the panel store. -/
def PanelStore.bank (p : PanelStore) : BankId → Bank
  | .a => p.bankA
  | .b => p.bankB

/-- The panel store with a bank replaced. -/
def PanelStore.setBank (p : PanelStore) (id : BankId) (b : Bank) : PanelStore :=
  match id with
  | .a => { p with bankA := b }
  | .b => { p with bankB := b }

/-- A bank of the part. -/
def State.bank (s : State) (id : BankId) : Bank := s.panel.bank id

/-- The state with a bank replaced. -/
def State.setBank (s : State) (id : BankId) (b : Bank) : State :=
  { s with panel := s.panel.setBank id b }

/-! ## Records -/

/-- The place of a key in the order of keys: by account, then cycle, then page (R28). -/
def keyOrder (k : Key) : Nat :=
  k.account.toNat * 65536 + k.cycle.toNat * 256 + k.page.toNat

/-- The key that no record carries, sent where a key is absent (R193). -/
def zeroKey : Key := { account := 0, cycle := 0, page := 0 }

/-- The key table with a record filed at the place of its key, last among equal keys (R28). -/
def KeyTable.file (r : Record) (table : List Record) : List Record :=
  match table with
  | [] => [r]
  | x :: rest => if keyOrder r.key < keyOrder x.key then r :: x :: rest else x :: KeyTable.file r rest

/-- The key table without the record of an entry (R26). -/
def KeyTable.drop (e : Entry) (table : List Record) : List Record :=
  table.filter (fun r => decide (r.entry ≠ e))

/-- The state with the key table replaced. -/
def State.setKeyTable (s : State) (table : List Record) : State :=
  { s with dir := { s.dir with keyTable := table } }

/-- The state with the record of an entry changed in place by `f`. -/
def State.mapRecord (s : State) (e : Entry) (f : Record → Record) : State :=
  s.setKeyTable (s.dir.keyTable.map (fun r => if r.entry = e then f r else r))

/-- The records of the master of a slot, in key-table order (R29). -/
def State.recordsOf (s : State) (sl : Slot) : List Record :=
  s.dir.keyTable.filter (fun r => decide (r.slot = sl))

/-! ## Reset and clearing of a command -/

/-- What a command does outside a hard reset; during one every block is held in reset and nothing happens (R198). -/
def State.whileRunning (s : State) (f : State → State) : State :=
  if s.sup.phase = .running then f s else s

/-- Whether the Request Unit is busy: the release queue holds a slot (R187). -/
def State.busy (s : State) : Bool := !s.releaseQueue.isEmpty

end Sys2Proof.Machine
end

