-- ==== Sys2Proof/Machine/Operands.lean ====
section
/-! DEFINITION. The codes and the byte and word layouts of the part (chapter 10, section 10.5), the CRC of the cell link (R171), and the fields of
requests, raster headers and listings. -/

namespace Sys2Proof.Machine

/-! ## Bytes -/

/-- The two bytes of a 16-bit field, most significant first (R165). -/
def bytes2 (h : Half) : List Byte := [h.extractLsb' 8 8, h.extractLsb' 0 8]

/-- The five bytes of an account, most significant first (R193). -/
def bytes5 (a : Account) : List Byte :=
  [a.extractLsb' 32 8, a.extractLsb' 24 8, a.extractLsb' 16 8, a.extractLsb' 8 8, a.extractLsb' 0 8]

/-- A 16-bit field from its two bytes. -/
def ofBytes2 (b1 b0 : Byte) : Half := b1 ++ b0

/-- An account from its five bytes. -/
def ofBytes5 (b4 b3 b2 b1 b0 : Byte) : Account := b4 ++ b3 ++ b2 ++ b1 ++ b0

/-- A byte from its bits in order of arrival, most significant first (R168). -/
def byteOfBits (bits : List Bool) : Byte :=
  bits.foldl (fun acc b => (acc <<< 1) ||| (if b then 1 else 0)) 0

/-- A one-bit flag as a bit. -/
def bit (b : Bool) : BitVec 1 := if b then 1 else 0

/-- A small count as one byte. -/
def countByte (n : Nat) : Byte := BitVec.ofNat 8 n

/-- A count as a 16-bit field. -/
def countHalf (n : Nat) : Half := BitVec.ofNat 16 n

/-! ## Codes -/

/-- R189. -/
def Result.code : Result → BitVec 4
  | .ok => 0
  | .busy => 1
  | .notFound => 2
  | .duplicate => 3
  | .outOfRange => 4
  | .masterFull => 5
  | .directoryFull => 6
  | .wrongState => 7
  | .badParam => 8
  | .unknown => 9
  | .denied => 10
  | .failedMaster => 11

/-- R22. -/
def RecState.code : RecState → BitVec 3
  | .awaiting => 0
  | .filling => 1
  | .loaded => 2
  | .inFlight => 3
  | .exposed => 4
  | .withdrawn => 5
  | .spoiled => 6
  | .lost => 7

/-- R194. -/
def MasterState.code : MasterState → Byte
  | .empty => 0
  | .loaded => 1
  | .opened => 2
  | .closing => 3
  | .settled => 4
  | .indexing => 5
  | .indexed => 6
  | .finished => 7
  | .releasing => 8
  | .spent => 9
  | .failed => 10

/-- R194, with 0 for no failure. -/
def failureCode : Option FailureReason → Byte
  | none => 0
  | some .plateRemoved => 1
  | some .indexSpoiled => 2
  | some .titleSpoiled => 3

/-- R52: the format byte. -/
def Format.code : Format → Byte
  | .g1 => 1
  | .g2 => 2
  | .g3 => 3

/-- The format a format byte names (R9). -/
def formatOf? (b : Byte) : Option Format :=
  if b = 1 then some .g1 else if b = 2 then some .g2 else if b = 3 then some .g3 else none

/-- R106. -/
def PathState.code : PathState → Byte
  | .idle => 0
  | .preparing => 1
  | .exposing => 2
  | .halted => 3
  | .faulted => 4

/-- R127. -/
def PathFault.code : PathFault → Byte
  | .none => 0
  | .underdose => 1
  | .lampLow => 2
  | .lampDark => 3
  | .plateRemoved => 4
  | .motionTimeout => 5
  | .motionFault => 6
  | .panelTimeout => 7

/-- R91. -/
def BankState.code : BankState → BitVec 2
  | .free => 0
  | .filling => 1
  | .loaded => 2
  | .shown => 3

/-- A bank named in two bits, 0 for none (R193, R194). -/
def bankCode : Option BankId → BitVec 2
  | none => 0
  | some .a => 1
  | some .b => 2

/-- R81. -/
def RasterReason.code : RasterReason → Byte
  | .none => 0
  | .badMarker => 1
  | .badRows => 2
  | .badKind => 3
  | .wrongHandle => 4
  | .wrongState => 5
  | .staleGeneration => 6
  | .sumMismatch => 7
  | .flushedMidRaster => 8

/-- R179. -/
def LinkReason.code : LinkReason → Byte
  | .none => 0
  | .badCrc => 1
  | .badLength => 2
  | .badSymbol => 3
  | .bitError => 4

/-- R151. -/
def Mark.code : Mark → Byte
  | .current => 0
  | .withdrawn => 1
  | .pending => 2
  | .spoiled => 3
  | .lost => 4

/-- R151: the mark of a record state. -/
def RecState.mark : RecState → Mark
  | .exposed => .current
  | .withdrawn => .withdrawn
  | .awaiting | .filling | .loaded | .inFlight => .pending
  | .spoiled => .spoiled
  | .lost => .lost

/-! ## Handles -/

/-- The entry index of a handle: bits 15 to 6 (R193). -/
def handleEntry (h : Handle) : Entry := (h.extractLsb' 6 10).toFin

/-- The stamp of a handle: bits 5 to 0 (R193). -/
def handleStamp (h : Handle) : Stamp := h.extractLsb' 0 6

/-- The handle of an entry and a stamp (R193). -/
def handleOf (e : Entry) (st : Stamp) : Handle := (BitVec.ofFin e : BitVec 10) ++ st

/-- The handle of a record: its entry with the entry's stamp (R21, R23). -/
def State.handleOfRecord (s : State) (r : Record) : Handle := handleOf r.entry s.dir.stamps[r.entry]

/-- The record a handle names, if it resolves: the entry is occupied and the stamps are equal (R23). -/
def State.resolve (s : State) (h : Handle) : Option Record :=
  if s.dir.stamps[handleEntry h] = handleStamp h then s.dir.keyTable.find? (fun r => decide (r.entry = handleEntry h)) else none

/-! ## Common fields (R193) -/

/-- The seven bytes of a key. -/
def keyBytes (k : Key) : List Byte := bytes5 k.account ++ [k.cycle, k.page]

/-- The flags byte of a record image. -/
def recordFlags (r : Record) : Byte :=
  r.state.code ++ bit r.retirePending ++ bit (r.clamped.getD false) ++ bit r.openTime.isSome ++ bankCode r.bank

/-- The class and source byte of a record image; bit 7 is unused. -/
def classSource (r : Record) : Byte := (0 : BitVec 1) ++ (BitVec.ofFin r.cls : BitVec 3) ++ r.source

/-- The 13 bytes of a record image (R37, R193). -/
def recordImage (r : Record) : List Byte :=
  keyBytes r.key ++ [countByte r.slot, countByte r.cell, recordFlags r, classSource r] ++ bytes2 (countHalf (r.openTime.getD 0))

/-- The nine bytes of an index entry, zeros throughout where there is none (R152, R193). -/
def indexEntryBytes : Option IndexEntry → List Byte
  | some e => keyBytes e.key ++ [countByte e.cell, e.mark.code]
  | none => List.replicate 9 0

/-- The head byte of an ACK or DATA tail (R192). -/
def headByte (node : Node) (r : Result) : Byte := node ++ r.code

/-- A roll byte (R192). -/
def rollByte (node : Node) (code : BitVec 4) : Byte := node ++ code

/-! ## The CRC (R171) -/

/-- One shift of the register. -/
def crcShift (reg : Byte) : Byte := if reg.msb then (reg <<< 1) ^^^ 0x2F else reg <<< 1

/-- The register after one byte. -/
def crcByte (reg b : Byte) : Byte :=
  crcShift (crcShift (crcShift (crcShift (crcShift (crcShift (crcShift (crcShift (reg ^^^ b))))))))

/-- The CRC of a list of bytes. -/
def crc (bytes : List Byte) : Byte := bytes.foldl crcByte 0xFF

/-! ## Tails -/

/-- The bytes of a tail as they go out (R175 to R177); a status byte not yet read counts as 0. -/
def TailBytes.sent : TailBytes → List Byte
  | .ack head => [head]
  | .roll byte => [byte]
  | .data head status payload =>
    let body := head :: status.getD 0 :: payload
    body ++ [crc body]

/-- The bits of bytes in the order in which they travel, most significant first (R165). -/
def bitsOf (bytes : List Byte) : List Bool :=
  bytes.flatMap (fun b => [b.getLsbD 7, b.getLsbD 6, b.getLsbD 5, b.getLsbD 4, b.getLsbD 3, b.getLsbD 2, b.getLsbD 1, b.getLsbD 0])

/-- The bit that a tail sends in bit period `n`, counted from 0: most significant bit first, byte after byte (R165, R173). -/
def TailBytes.bit? (t : TailBytes) (n : Nat) : Option Bool := (bitsOf t.sent)[n]?

/-- How long a writer holds LINK dominant in the 10 µs period of a bit, in µs (R165). -/
def dominantUs (b : Bool) : Nat := if b then 3 else 7

/-- Whether the line can show a cause at bit `n` of a tail (R174): the bit is one that the tail has yet to send, or the one at which it was cut
off, and a lost arbitration needs a 1 sent there, a bit error a 0. Another report cannot occur (log entry 3). -/
def Tail.shows (t : Tail) (n : Nat) (cause : CutCause) : Bool :=
  decide (if t.cut then n = t.nextBit else t.nextBit ≤ n) &&
    match cause with
    | .lostArbitration => decide (t.bytes.bit? n = some true)
    | .bitError => decide (t.bytes.bit? n = some false)
    | .breakPulse | .invalidSymbol | .unsettled => (t.bytes.bit? n).isSome

/-! ## The request portion (R169, R192) -/

/-- The target of a request portion: the low five bits of byte 0. -/
def portionTarget (b0 : Byte) : BitVec 5 := b0.extractLsb' 0 5

/-- The source of a request portion: the high four bits of byte 1. -/
def portionSource (b1 : Byte) : Node := b1.extractLsb' 4 4

/-- The parameter length of a request portion: the low four bits of byte 1. -/
def portionLength (b1 : Byte) : Nat := (b1.extractLsb' 0 4).toNat

/-- One bit received: it is shifted into the byte in assembly, and the eighth completes the byte (R168). -/
def RxBuffer.receive (rx : RxBuffer) (b : Bool) : RxBuffer :=
  let bits := rx.bits ++ [b]
  if bits.length = 8 then { bytes := rx.bytes ++ [byteOfBits bits], bits := [] } else { rx with bits := bits }

/-! ## Raster headers (R195) -/

/-- The fields of a raster header. -/
structure Header where
  marker     : Half
  kind       : Byte
  slot       : Byte
  handle     : Half
  generation : Half
  rows       : Half
  sum        : Word
  deriving DecidableEq, Repr

/-- The header that four words carry. -/
def Header.ofWords (w0 w1 w2 w3 : Word) : Header :=
  { marker := w0.extractLsb' 16 16, kind := w0.extractLsb' 8 8, slot := w0.extractLsb' 0 8, handle := w1.extractLsb' 16 16,
    generation := w1.extractLsb' 0 16, rows := w2.extractLsb' 16 16, sum := w3 }

/-! ## Listing words (R87, R195) -/

/-- The two header words of a listing. -/
def listingHeader (slot : Slot) (generation : Half) (count : Nat) : List Word :=
  [Config.marker ++ (4 : Byte) ++ countByte slot, generation ++ countHalf count]

/-- The three words of an entry. -/
def listingEntry (e : IndexEntry) : List Word :=
  [e.key.account.extractLsb' 8 32, e.key.account.extractLsb' 0 8 ++ e.key.cycle ++ e.key.page ++ countByte e.cell,
    (0 : BitVec 24) ++ e.mark.code]

/-- All the words of a listing, 2 + 3n for n entries. -/
def ListingBuffer.words (b : ListingBuffer) : List Word :=
  listingHeader b.slot b.generation b.entries.length ++ b.entries.flatMap listingEntry

end Sys2Proof.Machine
end

