-- ==== Sys2Proof/Machine/Geometry.lean ====
section
/-! DEFINITION. The figures of the grid formats, positions on the film and the move message (chapter 3). -/

namespace Sys2Proof.Machine

/-! ## Format figures (R52, R53) -/

/-- Columns of a format's grid. -/
def Format.cols : Format → Nat
  | .g1 => 16
  | .g2 => 20
  | .g3 => 12

/-- Rows of a format's grid. -/
def Format.gridRows : Format → Nat
  | .g1 => 8
  | .g2 => 12
  | .g3 => 6

/-- Cells of a format's grid. -/
def Format.cellCount (f : Format) : Nat := f.gridRows * f.cols

/-- Index cells, and so index parts, of a format. -/
def Format.indexParts : Format → Nat
  | .g1 => 1
  | .g2 => 2
  | .g3 => 1

/-- Document cells of a format: all but the index cells, which are the highest-numbered. -/
def Format.docCells (f : Format) : Nat := f.cellCount - f.indexParts

/-- The index cell of an index part. -/
def Format.indexCell (f : Format) (part : Nat) : Nat := f.docCells + part

/-- Pitch along a row, in motion steps. -/
def Format.pitchX : Format → Nat
  | .g1 => 1800
  | .g2 => 1440
  | .g3 => 2400

/-- Pitch down a column. -/
def Format.pitchY : Format → Nat
  | .g1 => 2200
  | .g2 => 1500
  | .g3 => 2900

/-- Offset of the title position in x. -/
def Format.originX : Format → Nat
  | .g1 => 400
  | .g2 => 400
  | .g3 => 400

/-- Offset of the title position in y. -/
def Format.originY : Format → Nat
  | .g1 => 500
  | .g2 => 300
  | .g3 => 600

/-- The turret position of a format (R62). -/
def Format.turret : Format → Turret
  | .g1 => .one
  | .g2 => .two
  | .g3 => .three

/-- The turret number sent to the motion controller (R62). -/
def Turret.number : Turret → BitVec 4
  | .one => 1
  | .two => 2
  | .three => 3

/-- The place of a format in the base table (R129). -/
def Format.baseIndex : Format → Fin 3
  | .g1 => 0
  | .g2 => 1
  | .g3 => 2

/-- The cell map of a fresh master: every index cell INDEX, every other cell FREE (R10). -/
def Format.freshCells (f : Format) : List CellState :=
  List.replicate f.docCells .free ++ List.replicate f.indexParts .index

/-! ## Positions (R60, R61) -/

/-- Width of a slot in motion steps. -/
def slotWidth : Nat := 32000

/-- Height of the title band in motion steps. -/
def titleBand : Nat := 2400

/-- The position of a cell of the master in a slot (R60). -/
def cellTarget (f : Format) (sl : Slot) (cell : Nat) : Target :=
  { x := sl.val * slotWidth + f.originX + cell % f.cols * f.pitchX, y := f.originY + titleBand + cell / f.cols * f.pitchY,
    turret := f.turret }

/-- The title position of a slot (R61). -/
def titleTarget (f : Format) (sl : Slot) : Target :=
  { x := sl.val * slotWidth + f.originX, y := f.originY, turret := f.turret }

/-- Where a job is exposed (R60, R61, R62). -/
def jobTarget (f : Format) (sl : Slot) : JobKind → Target
  | .document _ cell => cellTarget f sl cell
  | .index part => cellTarget f sl (f.indexCell part)
  | .title => titleTarget f sl

/-- The turret-change flag of a move: the turret position is unknown or differs from the move's (R64). -/
def turretChange (known : Option Turret) (t : Target) : Bool := decide (known ≠ some t.turret)

/-- The 48-bit move message (R64). -/
def moveMessage (known : Option Turret) (t : Target) : BitVec 48 :=
  BitVec.ofNat 24 t.x ++ BitVec.ofNat 16 t.y ++ t.turret.number ++ bit (turretChange known t) ++ (0 : BitVec 3)

end Sys2Proof.Machine
end

