-- ==== Sys2Proof/Machine/Dose.lean ====
section
/-! DEFINITION. The dose unit: target, limit and fog limit, the counter and timers, the lamp rate, calibration and the lamp duty (chapter 7). -/

namespace Sys2Proof.Machine

/-! ## Figures of a job (R131, R133, R134) -/

/-- The target before the clamp: the product divided by 8,192, one half rounding up. -/
def rawTarget (base factor trim : Nat) : Nat := (base * factor * trim + 4096) / 8192

/-- The dose target T. -/
def doseTarget (base factor trim : Nat) : Nat := max Config.leastTarget (rawTarget base factor trim)

/-- The clamped flag. -/
def doseClamped (base factor trim : Nat) : Bool := decide (rawTarget base factor trim < Config.leastTarget)

/-- The predicted time in ms, for a lamp rate above 0. -/
def predictedMs (target rate : Nat) : Nat := (target * 100 + rate - 1) / rate

/-- The exposure limit L in ms. -/
def exposureLimit (target rate : Nat) : Nat :=
  if rate = 0 then Config.limitCeilingMs
  else min Config.limitCeilingMs (max Config.limitFloorMs (2 * predictedMs target rate))

/-- The fog limit. -/
def fogLimit (target : Nat) : Nat := target / 64

/-- The base dose of a format. -/
def DoseUnit.baseOf (d : DoseUnit) (f : Format) : Nat := d.base[f.baseIndex].toNat

/-- The factor of a dose class. -/
def DoseUnit.factorOf (d : DoseUnit) (c : DoseClass) : Nat := d.classes[c].toNat

/-- The trim of a slot. -/
def DoseUnit.trimOf (d : DoseUnit) (sl : Slot) : Nat := d.trims[sl].toNat

/-! ## Counting and timing (R130, R135) -/

/-- Entry to EXPOSING: the counter integrates from 0, and the limit timer, the lamp-dark window and the measurement start (R112). -/
def DoseUnit.openShutter (d : DoseUnit) : DoseUnit :=
  { d with counter := .integrating, count := 0, limitTimer := true, darkWindow := .running, openTimer := true }

/-- The close of the shutter: the counter is idle, and the timers stop (R135). -/
def DoseUnit.closeShutter (d : DoseUnit) : DoseUnit :=
  { d with counter := .idle, limitTimer := false, darkWindow := .stopped, openTimer := false }

/-- One pulse counted; while integrating it spends the lamp-dark window (R130, R135). -/
def DoseUnit.countPulse (d : DoseUnit) : DoseUnit :=
  match d.counter with
  | .integrating => { d with count := d.count + 1, darkWindow := .spent }
  | .gating => { d with count := d.count + 1 }
  | .idle => d

/-- The lamp rate after a normal end (R136). -/
def DoseUnit.updateRate (d : DoseUnit) (target openMs : Nat) : DoseUnit :=
  if Config.rateUpdateMs ≤ openMs then { d with rate := BitVec.ofNat 16 (min 65535 (target * 100 / openMs)) } else d

/-! ## Calibration and duty (R138, R139, R143) -/

/-- A calibration gate starts: the counter gates from 0 (R139). -/
def DoseUnit.startGate (d : DoseUnit) (setReference : Bool) : DoseUnit :=
  { d with calibration := .running setReference, counter := .gating, count := 0, gateTimer := true }

/-- A held duty applied (R143). -/
def DoseUnit.applyHeld (d : DoseUnit) : DoseUnit :=
  match d.heldDuty with
  | some v => { d with duty := v, heldDuty := none }
  | none => d

/-- A pending calibration starts its gate (R138). -/
def DoseUnit.startPending (d : DoseUnit) : DoseUnit :=
  match d.calibration with
  | .pending f => d.startGate f
  | .none | .running _ => d

/-- Everything the dose unit does as the shutter closes: the counter and timers stop, a held duty is applied, and then a pending gate starts
(R135, R138, R143). -/
def DoseUnit.close (d : DoseUnit) : DoseUnit := d.closeShutter.applyHeld.startPending

/-- The end of a gate: C takes the count, saturated, and C_ref too with the set-reference flag; a held duty is applied (R139). -/
def DoseUnit.endGate (d : DoseUnit) (setReference : Bool) : DoseUnit :=
  let c : Half := BitVec.ofNat 16 (min 65535 d.count)
  ({ d with counter := .idle, rate := c, reference := if setReference then c else d.reference, calibration := .none,
            gateTimer := false } : DoseUnit).applyHeld

/-- A calibration gate runs (R110). -/
def DoseUnit.gateRuns (d : DoseUnit) : Bool :=
  match d.calibration with
  | .running _ => true
  | .none | .pending _ => false

end Sys2Proof.Machine
end

