-- ==== Sys2Proof/Machine/Motion.lean ====
section
/-! DEFINITION. The motion port (section 3.5). -/

namespace Sys2Proof.Machine

/-- A move issued: the message is built and goes out (R64). -/
def MotionPort.issue (m : MotionPort) (t : Target) : MotionPort :=
  { m with port := .sending, target := some t, message := some (moveMessage m.turret t) }

/-- A move request (R64). In MOVING, and in SENDING for a move that is not abandoned, it cannot occur. -/
def MotionPort.request (m : MotionPort) (t : Target) : MotionPort :=
  match m.port with
  | .idle => m.issue t
  | .draining => { m with pendingMove := some t }
  | .sending => if m.abandoned then { m with pendingMove := some t } else m
  | .moving => m

/-- A move abandoned by the sequencer (R68). DESIGN CHOICE, unsafe (log entry 29): where the panel timer expires before ARRIVED, the row of R126
calls the port "already IDLE"; the port still stands in MOVING then (R65), and is DRAINING, as R68 says, until the IN_POSITION that makes the
outcome the row's. -/
def MotionPort.abandon (m : MotionPort) : MotionPort :=
  match m.port with
  | .idle => m
  | .sending => { m with abandoned := true, pendingMove := none }
  | .moving => { m with port := .draining }
  | .draining => { m with pendingMove := none }

/-- MOT_GO rises: the move timer starts, and the port is MOVING, or DRAINING if the move was abandoned (R64, R68). -/
def MotionPort.go (m : MotionPort) : MotionPort :=
  match m.port with
  | .sending =>
    { m with port := if m.abandoned then .draining else .moving, abandoned := false, moveTimer := true, message := none,
              goRisen := true }
  | .idle | .moving | .draining => m

/-- A move ended: the timer stops, the turret position is `known`, the target is absent and the port IDLE (R65, R66, R67). -/
def MotionPort.finish (m : MotionPort) (known : Option Turret) : MotionPort :=
  { m with port := .idle, target := none, moveTimer := false, turret := known }

/-- A drain ended: the port is IDLE, and a pending move is issued (R68). -/
def MotionPort.endDrain (m : MotionPort) (known : Option Turret) : MotionPort :=
  match m.pendingMove with
  | some t => ({ m.finish known with pendingMove := none } : MotionPort).issue t
  | none => m.finish known

/-- The turret of the move being made. -/
def MotionPort.targetTurret (m : MotionPort) : Option Turret := m.target.map (·.turret)

end Sys2Proof.Machine
end

