-- ==== Sys2Proof/Machine/Panel.lean ====
section
/-! DEFINITION. The panel store's operations: what a bank is bound to, freeing and orphaning banks, and the panel interface (chapter 5). -/

namespace Sys2Proof.Machine

/-- The slot of the master a binding belongs to: for a record, the slot field of the record the handle resolves to (R92). -/
def State.bindingSlot (s : State) : Binding → Option Slot
  | .record h => (s.resolve h).map (·.slot)
  | .index sl _ => some sl
  | .title sl => some sl

/-- The slot of the master a bank is bound to (R92). A SHOWN bank counts as bound to the master of the job it is shown for until the job ends,
also once the job's record has been deleted after the plate's removal (R97). DEDUCED, safe (log entry 13). -/
def State.bankSlot (s : State) (id : BankId) : Option Slot :=
  match (s.bank id).state, s.seq.job with
  | .shown, some j => some j.slot
  | _, _ => (s.bank id).binding.bind s.bindingSlot

/-- A bank freed: it loses its binding and leaves the loaded-job queue, where the others keep their order (R95, R98). -/
def State.freeBank (s : State) (id : BankId) : State :=
  { s with panel := { s.panel.setBank id { s.bank id with state := .free, binding := none } with
                      queue := s.panel.queue.filter (fun q => decide (q ≠ id)) } }

/-- A FILLING bank made an orphan: it loses its binding and goes on filling (R94). -/
def State.orphanBank (s : State) (id : BankId) : State :=
  s.setBank id { s.bank id with binding := none }

/-- A LOADED bank freed, a FILLING bank made an orphan, and any other bank left as it is (R94, R98). -/
def State.letGo (s : State) (id : BankId) : State :=
  match (s.bank id).state with
  | .loaded => s.freeBank id
  | .filling => s.orphanBank id
  | .free | .shown => s

/-- A bank let go if it is bound to the master of a slot. -/
def State.releaseBankOf (s : State) (sl : Slot) (id : BankId) : State := if s.bankSlot id = some sl then s.letGo id else s

/-- Both banks released from the master of a slot (R6, R14, R17). -/
def State.releaseBanksOf (s : State) (sl : Slot) : State := (s.releaseBankOf sl .a).releaseBankOf sl .b

/-- A bank let go if it is bound to the record of a handle. -/
def State.releaseRecordBank (s : State) (h : Handle) (id : BankId) : State :=
  if (s.bank id).binding = some (.record h) then s.letGo id else s

/-- The bank of a record released: a LOADED bank freed, a FILLING bank orphaned (R33, R43). -/
def State.releaseRecordBanks (s : State) (h : Handle) : State := (s.releaseRecordBank h .a).releaseRecordBank h .b

/-- Whether a bank is FILLING or SHOWN with a binding to the master of a slot (R16). -/
def State.bankInUse (s : State) (sl : Slot) (id : BankId) : Bool :=
  decide (((s.bank id).state = .filling ∨ (s.bank id).state = .shown) ∧ s.bankSlot id = some sl)

/-- The bank a header would be bound to: A if it is FREE, else B if it is FREE (R76, R93). -/
def State.freeBankId? (s : State) : Option BankId :=
  if s.panel.bankA.state = .free then some .a else if s.panel.bankB.state = .free then some .b else none

/-- Whether some bank carries a binding. -/
def State.isBound (s : State) (bd : Binding) : Bool :=
  decide (s.panel.bankA.binding = some bd ∨ s.panel.bankB.binding = some bd)

/-- A filled bank becomes LOADED and joins the tail of the loaded-job queue (R95). -/
def State.loadBank (s : State) (id : BankId) : State :=
  { s with panel := { s.panel.setBank id { s.bank id with state := .loaded } with queue := s.panel.queue ++ [id] } }

/-- A SHOWN bank whose job is returned becomes LOADED at the head of the queue with its binding (R97). -/
def State.returnBank (s : State) (id : BankId) : State :=
  { s with panel := { s.panel.setBank id { s.bank id with state := .loaded } with queue := id :: s.panel.queue } }

/-- The head of the queue leaves it and becomes SHOWN, and its SHOW is issued: the bank is selected and PNL_SHOW is owed (R96, R100). -/
def State.showBank (s : State) (id : BankId) (rest : List BankId) : State :=
  { s with panel := { s.panel.setBank id { s.bank id with state := .shown } with
                      queue := rest, selected := some id, strobing := true } }

/-- A SHOW abandoned: the awaiting flag is cleared, and a strobe not yet given is cancelled (R102). -/
def PanelStore.abandonShow (p : PanelStore) : PanelStore := { p with awaiting := false, strobing := false }

/-- The banks byte of the STATUS tail (R190, R194). -/
def PanelStore.banksByte (p : PanelStore) : Byte :=
  p.bankA.state.code ++ p.bankB.state.code ++ bit (decide (p.bankA.state = .filling ∧ p.bankA.binding = none)) ++
    bit (decide (p.bankB.state = .filling ∧ p.bankB.binding = none)) ++ bankCode p.queue.head?

end Sys2Proof.Machine
end

