-- ==== Sys2Proof/Machine/Directory.lean ====
section
/-! DEFINITION. The directory and the Master Table as the other blocks change them: cells, generations, the settled condition, deletion and
retirement of records, bindings of index parts, failure and release of masters (chapters 1 to 3 and 8). -/

namespace Sys2Proof.Machine

/-! ## Masters -/

/-- The master's range covers an account (R2). -/
def MasterFields.covers (f : MasterFields) (a : Account) : Bool :=
  decide (f.accountLow.toNat ≤ a.toNat ∧ a.toNat ≤ f.accountHigh.toNat)

/-- The range of the master of a slot covers an account. -/
def State.slotCovers (s : State) (sl : Slot) (a : Account) : Bool :=
  ((s.master sl).fields.map (·.covers a)).getD false

/-- The OPEN master whose range covers an account; there is at most one (R31). -/
def State.openCovering (s : State) (a : Account) : Option Slot :=
  allSlots.find? (fun sl => decide ((s.master sl).state = .opened) && s.slotCovers sl a)

/-- The lowest-numbered FREE cell of a map (R56). Index cells are never FREE. -/
def MasterFields.lowestFree (f : MasterFields) : Option Nat := f.cells.findIdx? (fun c => decide (c = .free))

/-- The lowest-numbered FREE document cell of the master of a slot. -/
def State.lowestFree (s : State) (sl : Slot) : Option Nat := (s.master sl).fields.bind (·.lowestFree)

/-- The number of FREE cells (R59). -/
def MasterFields.freeCells (f : MasterFields) : Nat := f.cells.countP (fun c => decide (c = .free))

/-- A master in whose map changes are made: neither FAILED nor RELEASING (R55). -/
def MasterState.mapMoves : MasterState → Bool
  | .failed | .releasing => false
  | .empty | .loaded | .opened | .closing | .settled | .indexing | .indexed | .finished | .spent => true

/-- A cell given a state, in a master whose map is not frozen (R55). -/
def State.markCell (s : State) (sl : Slot) (cell : Nat) (c : CellState) : State :=
  if (s.master sl).state.mapMoves then s.mapMaster sl (·.mapFields (fun f => { f with cells := f.cells.set cell c })) else s

/-- The generation advanced by 1, modulo 65,536 (R148, R149). -/
def State.advance (s : State) (sl : Slot) : State :=
  s.mapMaster sl (fun m => { m with generation := m.generation + 1 })

/-- The settled condition: every record of the master is EXPOSED or WITHDRAWN (R12). -/
def State.settledCondition (s : State) (sl : Slot) : Bool :=
  (s.recordsOf sl).all (fun r => decide (r.state = .exposed ∨ r.state = .withdrawn))

/-- The test of the settled condition: a CLOSING master that meets it becomes SETTLED (R12). -/
def State.settleTest (s : State) (sl : Slot) : State :=
  if (s.master sl).state = .closing ∧ s.settledCondition sl = true then s.mapMaster sl (fun m => { m with state := .settled }) else s

/-! ## Index bindings (R13) -/

/-- An index part bound: the index bindings count rises, and a SETTLED master becomes INDEXING. -/
def State.bindIndex (s : State) (sl : Slot) : State :=
  s.mapMaster sl (fun m =>
    { m.mapFields (fun f => { f with indexBindings := f.indexBindings + 1 }) with
      state := if m.state = .settled then .indexing else m.state })

/-- An index binding ended without an exposure: the count falls, and an INDEXING master with no binding and no part exposed is SETTLED again. -/
def State.unbindIndex (s : State) (sl : Slot) : State :=
  s.mapMaster sl (fun m =>
    let m' := m.mapFields (fun f => { f with indexBindings := f.indexBindings - 1 })
    { m' with state :=
        if m.state = .indexing ∧ (m'.fields.map (fun f => decide (f.indexBindings = 0 ∧ f.partsExposed = 0))).getD false = true
        then .settled else m.state })

/-- An index part exposed: its cell becomes EXPOSED-INDEX, the bindings fall and the parts exposed rise by 1, and the INDEXING master is INDEXED
once every index cell is exposed. The master of an index job is INDEXING at its normal end (log entry 27). -/
def State.exposeIndex (s : State) (sl : Slot) (part : Nat) : State :=
  s.mapMaster sl (fun m =>
    let m' := m.mapFields (fun f => { f with cells := f.cells.set (f.format.indexCell part) .exposedIndex,
                                             indexBindings := f.indexBindings - 1, partsExposed := f.partsExposed + 1 })
    { m' with state :=
        if m.state = .indexing ∧ (m'.fields.map (fun f => decide (f.partsExposed = f.format.indexParts))).getD false = true
        then .indexed else m.state })

/-- The title exposed: the INDEXED master is FINISHED. The master of a title job is INDEXED at its normal end (log entry 27). -/
def State.exposeTitle (s : State) (sl : Slot) : State :=
  s.mapMaster sl (fun m => { m with state := if m.state = .indexed then .finished else m.state })

/-- What a binding that ends without an exposure releases: a record returns to AWAITING without a bank, an index part is unbound, a title is
unbound with no other change (R78, R83). -/
def State.releaseBinding (s : State) : Binding → State
  | .record h =>
    match s.resolve h with
    | some r => s.mapRecord r.entry (fun r => { r with state := .awaiting, bank := none })
    | none => s
  | .index sl _ => s.unbindIndex sl
  | .title _ => s

/-! ## Deletion and retirement of records -/

/-- The record of an entry leaves the key table, and the entry joins the tail of the free list with its stamp advanced (R26.1, R26.2). -/
def State.dropEntry (s : State) (e : Entry) : State :=
  { s with dir := { stamps := s.dir.stamps.set e (s.dir.stamps[e] + 1), freeList := s.dir.freeList ++ [e],
                    keyTable := KeyTable.drop e s.dir.keyTable } }

/-- A record deleted outside a release deletion: its entry is dropped, its cell takes `cell` (or stays), its master's generation advances and
the settled condition is tested (R26). Its bank is the caller's. -/
def State.deleteRecord (s : State) (r : Record) (cell : Option CellState) : State :=
  let s1 := s.dropEntry r.entry
  let s2 := match cell with
    | some c => s1.markCell r.slot r.cell c
    | none => s1
  (s2.advance r.slot).settleTest r.slot

/-- A record retired, or its PLACE rolled back, according to its state (R33, R43, R44, R45). -/
def State.retireRecord (s : State) (r : Record) : State :=
  match r.state with
  | .awaiting => s.deleteRecord r (some .free)
  | .filling => (s.releaseRecordBanks (s.handleOfRecord r)).deleteRecord r (some .free)
  | .loaded => (s.releaseRecordBanks (s.handleOfRecord r)).deleteRecord r (some .free)
  | .inFlight => s.mapRecord r.entry (fun r => { r with retirePending := true })
  | .exposed => ((s.mapRecord r.entry (fun r => { r with state := .withdrawn })).advance r.slot).settleTest r.slot
  | .withdrawn => s
  | .spoiled => s.deleteRecord r none
  | .lost => s.deleteRecord r none

/-! ## The index list (R151) -/

/-- The entry a record gives. -/
def Record.indexEntry (r : Record) : IndexEntry := { key := r.key, cell := r.cell, mark := r.state.mark }

/-- The index list of the master of a slot. -/
def State.indexList (s : State) (sl : Slot) : List IndexEntry := (s.recordsOf sl).map Record.indexEntry

/-! ## Failure and release of masters -/

/-- A master fails: the state and reason are set and the index bindings become 0; the other master fields keep their values (R6.1, R6.7,
R14). -/
def State.failMaster (s : State) (sl : Slot) (why : FailureReason) : State :=
  s.mapMaster sl (fun m =>
    { m.mapFields (fun f => { f with indexBindings := 0 }) with state := .failed, failure := some why })

/-- Every record of a master becomes LOST; its bank field becomes absent and retire-pending is cleared (R49). -/
def State.loseRecords (s : State) (sl : Slot) : State :=
  s.setKeyTable (s.dir.keyTable.map (fun r => if r.slot = sl then { r with state := .lost, bank := none, retirePending := false } else r))

/-- A plate removed from a live master, at the Master Table: banks, records, master, PLT and the report to the sequencer (R6). -/
def State.removeLivePlate (s : State) (sl : Slot) : State :=
  let s1 := ((s.releaseBanksOf sl).loseRecords sl).failMaster sl .plateRemoved
  { s1 with removalReports := s1.removalReports ++ [sl], sup := { s1.sup with plt := true } }

/-- A master enters RELEASING (R17): its LOADED banks are freed, the bindings become 0, the slot joins the release queue, and a queued listing
of it is withdrawn. The records whose banks are freed lose their bank field (R92; log entry 15). -/
def State.enterReleasing (s : State) (sl : Slot) : State :=
  let s1 := (s.releaseBanksOf sl).setKeyTable
    (s.dir.keyTable.map (fun r => if r.slot = sl then { r with bank := none } else r))
  let s2 := s1.mapMaster sl (fun m => { m.mapFields (fun f => { f with indexBindings := 0 }) with state := .releasing })
  { s2 with releaseQueue := s2.releaseQueue ++ [sl],
            raster := { s2.raster with place := if s2.raster.place = .queued sl then .empty else s2.raster.place } }

/-- The end of a release deletion: the master is SPENT or EMPTY by its plate, its fields and failure reason are dropped, its generation kept,
and the slot leaves the release queue (R19). -/
def State.endRelease (s : State) (sl : Slot) (rest : List Slot) : State :=
  { s.mapMaster sl (fun m => { state := if s.platePresent sl then .spent else .empty, fields := none, generation := m.generation,
                               failure := none }) with releaseQueue := rest }

/-- A listing of a slot is being sent outbound (R18). -/
def State.listingRuns (s : State) (sl : Slot) : Bool := decide (s.raster.place = .inProgress sl)

end Sys2Proof.Machine
end

