-- ==== Sys2Proof/Machine/Flags.lean ====
section
/-! DEFINITION. The status flags, the ALERT line and the other output pins (R192, R196, R197), and the latching and clearing of flags. Every
output pin is a function of the state: a reset under way holds it low, and LINK released (R182, R198). -/

namespace Sys2Proof.Machine

/-! ## Live flags -/

/-- HLT: the path is HALTED or FAULTED (R106). -/
def State.hlt (s : State) : Bool := decide (s.seq.path = .halted ∨ s.seq.path = .faulted)

/-- FLT: the path is FAULTED (R106). -/
def State.flt (s : State) : Bool := decide (s.seq.path = .faulted)

/-- LMP: the lamp rate stands below five eighths of the reference (R137). -/
def State.lmp (s : State) : Bool :=
  decide (0 < s.dose.reference.toNat ∧ s.dose.rate.toNat * 8 < s.dose.reference.toNat * 5)

/-- DLO: fewer than 32 entries are free (R27). -/
def State.dlo (s : State) : Bool := decide (s.dir.freeList.length < Config.lowEntries)

/-- The part is out of reset. -/
def State.outOfReset (s : State) : Bool := decide (s.sup.phase = .running)

/-- The ALERT line (R197). -/
def State.alert (s : State) : Bool :=
  s.outOfReset && (s.sup.lnk || s.sup.ras || s.sup.cls || s.sup.plt || s.flt)

/-- The status byte (R192). -/
def State.statusByte (s : State) : Byte :=
  bit s.sup.lnk ++ bit s.sup.ras ++ bit s.sup.cls ++ bit s.sup.plt ++ bit s.hlt ++ bit s.flt ++ bit s.lmp ++ bit s.dlo

/-- The group STATUS roll code (R190, R192). -/
def State.statusRollCode (s : State) : BitVec 4 := bit s.alert ++ bit s.hlt ++ bit s.flt ++ bit s.dlo

/-! ## Latched flags -/

/-- A link fault: its reason is recorded and LNK latched (R179). -/
def State.linkFault (s : State) (r : LinkReason) : State :=
  { s with link := { s.link with fault := r }, sup := { s.sup with lnk := true } }

/-- A raster fault: its reason and raster handle are recorded and RAS latched (R82). -/
def State.rasterFault (s : State) (r : RasterReason) (handle : Half) : State :=
  { s with raster := { s.raster with faultReason := r, faultHandle := handle }, sup := { s.sup with ras := true } }

/-- CLS latched (R34). -/
def State.latchClash (s : State) : State := { s with sup := { s.sup with cls := true } }

/-- PLT latched (R6). -/
def State.latchPlate (s : State) : State := { s with sup := { s.sup with plt := true } }

/-- The latched flags cleared that a status byte shows set (R191): bits 7 to 4 are LNK, RAS, CLS and PLT. -/
def State.clearShown (s : State) (byte : Byte) : State :=
  { s with sup := { s.sup with lnk := s.sup.lnk && !byte.getLsbD 7, ras := s.sup.ras && !byte.getLsbD 6,
                               cls := s.sup.cls && !byte.getLsbD 5, plt := s.sup.plt && !byte.getLsbD 4 } }

/-! ## Output pins -/

/-- SHUTTER: high while the path is EXPOSING (R106). -/
def State.shutter (s : State) : Bool := s.outOfReset && decide (s.seq.path = .exposing)

/-- PNL_SEL: high for bank B (R99). -/
def State.pnlSel (s : State) : Bool := s.outOfReset && decide (s.panel.selected = some .b)

/-- PNL_SHOW `us` µs after its last rise: high for 2 µs; low where it has not risen since the reset (R99, R100). -/
def State.pnlShow (s : State) (us : Nat) : Bool := s.outOfReset && s.panel.showRisen && decide (us < 2)

/-- MOT_GO `us` µs after its last rise: high for 10 µs; low where it has not risen since the reset (R63, R64). -/
def State.motGo (s : State) (us : Nat) : Bool := s.outOfReset && s.motion.goRisen && decide (us < 10)

/-- MOT_DAT in period `n` of MOT_CLK: the bits of the message going out, most significant first (R64). Without a message it is low: held so by
a reset (R63, R68), and after a message at the level of its last bit, a 0 (DEDUCED, log entry 23). -/
def State.motDat (s : State) (n : Fin 48) : Bool := s.outOfReset && (s.motion.message.map (fun m => m.getMsbD n)).getD false

/-- MOT_CLK in a period of it, before (`risen` false) and after its rising edge: it runs while a message goes out, and is else low (R63, R64,
R68; log entry 23). -/
def State.motClk (s : State) (risen : Bool) : Bool := s.outOfReset && s.motion.message.isSome && risen

/-- READY where no edge of STROBE has just been taken: inbound there is room for a half-word, outbound a half-word is offered; low while FLUSH
is high (R70, R84, R85, R88). -/
def State.ready (s : State) : Bool :=
  s.outOfReset && !s.pins.flush &&
    match s.raster.direction with
    | .inbound => decide (s.raster.fifo.length < Config.fifoWords)
    | .outbound => decide (s.raster.decoder = .listing) && !s.raster.fifo.isEmpty

/-- READY in the course of an event that takes a half-word: it falls at the edge of STROBE, and has risen again, if it does rise, by the event's
end. `risen` is false between the two: READY is then low, unless no half-word has been taken since the reset (R69, R88; log entry 30). -/
def State.readyAt (s : State) (risen : Bool) : Bool := s.ready && (risen || !s.raster.strobed)

/-- The half-word on DATA outbound: the low half of the word at the FIFO head, then its high half (R87, R88). -/
def State.dataOut (s : State) : Option Half :=
  match s.raster.fifo with
  | w :: _ => if s.ready && decide (s.raster.direction = .outbound) then
      some (if s.raster.lowSent then w.extractLsb' 16 16 else w.extractLsb' 0 16) else none
  | [] => none

/-- Whether the link interface drives LINK (for the dominant part of each bit): only in ANSWER, and not after a cut-off (R164, R174). -/
def State.drivesLink (s : State) : Bool :=
  s.outOfReset && decide (s.link.iface = .answer) && !((s.link.tail.map (·.cut)).getD true)

/-- The bit that the link interface sends in bit period `n` of its tail (R165, R173). -/
def State.linkBit (s : State) (n : Nat) : Option Bool := if s.drivesLink then s.link.tail.bind (fun t => t.bytes.bit? n) else none

/-- Whether the link interface pulls LINK dominant `us` µs into bit period `n` of its tail (R164, R165). -/
def State.pullsLink (s : State) (n us : Nat) : Bool := ((s.linkBit n).map (fun b => decide (us < dominantUs b))).getD false

/-- Whether the link interface keeps a bit schedule: while a frame is under way (R164, R167). The schedule itself is a time, which the model
does not measure (log entry 19). -/
def State.bitSchedule (s : State) : Bool :=
  decide (s.link.iface = .request ∨ s.link.iface = .answer ∨ s.link.iface = .rollWait)

/-- The level of LAMP_PWM `us` µs into the present period (R142). -/
def State.lampPwm (s : State) (us : Nat) : Bool := s.outOfReset && decide (us < s.dose.pwmHigh.toNat)

end Sys2Proof.Machine
end

