-- ==== Sys2Proof/Machine/Raster.lean ====
section
/-! DEFINITION. The raster port's stream: headers, fills, drains, FLUSH, direction and listings (chapter 4). Words move from the FIFO as fast as
they come, but for the last data word of a fill or a drain, whose move is a command of its own (log entry 5). -/

namespace Sys2Proof.Machine

/-! ## Header checks (R73 to R75) -/

/-- What the examination of a header decides. -/
inductive Verdict where
  | bind (bd : Binding)
  | drain (why : RasterReason)
  | discard (why : RasterReason)
  deriving DecidableEq, Repr

/-- The checks of a DOCUMENT header (R74). -/
def State.checkDocument (s : State) (h : Header) : Verdict :=
  match s.resolve h.handle with
  | none => .drain .wrongHandle
  | some r =>
    if r.state = .awaiting ∧ ((s.master r.slot).state = .opened ∨ (s.master r.slot).state = .closing) then .bind (.record h.handle)
    else .drain .wrongState

/-- Whether a part number names an index part of the format that is neither exposed nor bound to a bank (R75). -/
def State.partOpen (s : State) (sl : Slot) (f : MasterFields) (part : Nat) : Bool :=
  decide (part < f.format.indexParts) && decide (f.cells[f.format.indexCell part]? ≠ some .exposedIndex) && !s.isBound (.index sl part)

/-- The checks of an INDEX header (R75, R156). -/
def State.checkIndex (s : State) (h : Header) : Verdict :=
  match slotOf? h.slot with
  | none => .drain .wrongState
  | some sl =>
    match (s.master sl).fields with
    | none => .drain .wrongState
    | some f =>
      if ¬ ((s.master sl).state = .settled ∨ (s.master sl).state = .indexing) then .drain .wrongState
      else if s.partOpen sl f h.handle.toNat = false then .drain .wrongState
      else if h.generation = (s.master sl).generation then .bind (.index sl h.handle.toNat)
      else .drain .staleGeneration

/-- The checks of a TITLE header (R75, R160). -/
def State.checkTitle (s : State) (h : Header) : Verdict :=
  match slotOf? h.slot with
  | none => .drain .wrongState
  | some sl =>
    if (s.master sl).state = .indexed ∧ s.isBound (.title sl) = false then .bind (.title sl) else .drain .wrongState

/-- The checks of a header, in order (R73, R74, R75). -/
def State.checkHeader (s : State) (h : Header) : Verdict :=
  if h.marker ≠ Config.marker then .discard .badMarker
  else if h.rows.toNat = 0 ∨ Config.bankRows < h.rows.toNat then .discard .badRows
  else if h.kind = 1 then s.checkDocument h
  else if h.kind = 2 then s.checkIndex h
  else if h.kind = 3 then s.checkTitle h
  else .discard .badKind

/-! ## Binding (R76) -/

/-- The row count of a header whose form is good. -/
def Header.rowCount (h : Header) : Fin 1537 := Fin.ofNat 1537 h.rows.toNat

/-- What the binding of a header does at its owner: a record becomes FILLING, an index part is counted, a title changes nothing else. -/
def State.bindOwner (s : State) (id : BankId) : Binding → State
  | .record h =>
    match s.resolve h with
    | some r => s.mapRecord r.entry (fun r => { r with state := .filling, bank := some id })
    | none => s
  | .index sl _ => s.bindIndex sl
  | .title _ => s

/-- A header bound to a bank: the decoder enters FILL (R76). -/
def State.bindHeader (s : State) (id : BankId) (bd : Binding) (h : Header) : State :=
  let s1 := (s.bindOwner id bd).setBank id { s.bank id with state := .filling, binding := some bd, rows := h.rowCount.val }
  { s1 with raster := { s1.raster with decoder := .fill { bank := id, rows := h.rowCount, sum := h.sum, handle := h.handle,
                                                          running := 0, count := 0 } } }

/-! ## The decoder -/

/-- Data words of a fill. -/
def Fill.words (f : Fill) : Nat := f.rows.val * Config.rowWords

/-- A fill with one more word moved (R77). -/
def Fill.move (f : Fill) (w : Word) : Fill := { f with running := f.running + w, count := f.count + 1 }

/-- In HEADER with four words in the FIFO the header is taken (R71). -/
def State.takeHeader (s : State) : State :=
  if s.raster.decoder = .header ∧ 4 ≤ s.raster.fifo.length then { s with raster := { s.raster with decoder := .waitBank } } else s

/-- What a verdict does (R73 to R76). -/
def State.settleHeader (s : State) (id : BankId) (h : Header) : Verdict → State
  | .bind bd => s.bindHeader id bd h
  | .drain why =>
    ({ s with raster := { s.raster with decoder := .drain (h.rows.toNat * Config.rowWords) } } : State).rasterFault why h.handle
  | .discard why => ({ s with raster := { s.raster with decoder := .discard } } : State).rasterFault why h.handle

/-- In WAIT_BANK with a bank FREE the four header words are consumed and the header is examined (R72). -/
def State.examineHeader (s : State) : State :=
  if s.raster.decoder = .waitBank then
    match s.freeBankId?, s.raster.fifo with
    | some id, w0 :: w1 :: w2 :: w3 :: rest =>
      let s1 : State := { s with raster := { s.raster with fifo := rest } }
      s1.settleHeader id (Header.ofWords w0 w1 w2 w3) (s1.checkHeader (Header.ofWords w0 w1 w2 w3))
    | _, _ => s
  else s

/-- The words of the FIFO moved into a bank memory, all but the fill's last (R77): the fill, the memory and the words left. -/
def moveData (f : Fill) (mem : List BankCell) : List Word → Fill × List BankCell × List Word
  | [] => (f, mem, [])
  | w :: rest =>
    if f.count + 1 < f.words then moveData (f.move w) (Memory.write mem f.count w) rest else (f, mem, w :: rest)

/-- FILL: the data words that stand in the FIFO are moved (R77). -/
def State.moveFill (s : State) (f : Fill) : State :=
  let (f', mem, rest) := moveData f (s.bank f.bank).words s.raster.fifo
  let s1 := s.setBank f.bank { s.bank f.bank with words := mem }
  { s1 with raster := { s1.raster with fifo := rest, decoder := .fill f' } }

/-- The decoder consumes what stands in the FIFO: in FILL and DRAIN all but the raster's last data word, in DISCARD everything (R77, R79,
R80). -/
def State.consume (s : State) : State :=
  match s.raster.decoder with
  | .fill f => s.moveFill f
  | .drain left =>
    let n := min (left - 1) s.raster.fifo.length
    { s with raster := { s.raster with fifo := s.raster.fifo.drop n, decoder := .drain (left - n) } }
  | .discard => { s with raster := { s.raster with fifo := [] } }
  | .header | .waitBank | .listing => s

/-- What the decoder does in the event that gives it words or a FREE bank (R71, R72, R93). -/
def State.streamGo (s : State) : State := s.takeHeader.examineHeader.consume

/-! ## Fill end (R78) -/

/-- The outcome of a fill that has moved its last word, by its binding and its sum. -/
def State.settleFill (s : State) (f : Fill) : State :=
  match (s.bank f.bank).binding with
  | none => s.freeBank f.bank
  | some bd =>
    if f.running = f.sum then
      match bd with
      | .record h =>
        match s.resolve h with
        | some r => (s.loadBank f.bank).mapRecord r.entry (fun r => { r with state := .loaded })
        | none => s.loadBank f.bank
      | .index _ _ | .title _ => s.loadBank f.bank
    else ((s.freeBank f.bank).releaseBinding bd).rasterFault .sumMismatch f.handle

/-- The fill's last data word `w` is moved, and the decoder returns to HEADER. -/
def State.finishFill (s : State) (f : Fill) (w : Word) (rest : List Word) : State :=
  let s1 := s.setBank f.bank { s.bank f.bank with words := Memory.write (s.bank f.bank).words f.count w }
  let s2 : State := { s1 with raster := { s1.raster with fifo := rest, decoder := .header } }
  s2.settleFill (f.move w)

/-! ## Direction and listings (R85 to R89) -/

/-- The effective direction becomes outbound if DIR is high, the decoder in HEADER, the FIFO empty and there is no lone half (R85). -/
def State.turnOutbound (s : State) : State :=
  if s.pins.dir = true ∧ s.raster.direction = .inbound ∧ s.raster.decoder = .header ∧ s.raster.fifo = [] ∧ s.raster.loneHalf = none then
    { s with raster := { s.raster with direction := .outbound } }
  else s

/-- A queued listing begins if the direction is outbound and the decoder in HEADER: the index list is copied, and the first words are loaded
into the FIFO (R86, R87). -/
def State.beginListing (s : State) : State :=
  match s.raster.place with
  | .queued sl =>
    if s.raster.direction = .outbound ∧ s.raster.decoder = .header then
      let b : ListingBuffer := { slot := sl, generation := (s.master sl).generation, entries := s.indexList sl, loaded := 0 }
      { s with raster := { s.raster with
          fifo := b.words.take Config.fifoWords, decoder := .listing, place := .inProgress sl, lowSent := false,
          buffer := some { b with loaded := min Config.fifoWords b.words.length } } }
    else s
  | .empty | .inProgress _ => s

/-- The direction change and the listing it lets begin, in one event (R85, R86). -/
def State.turnAndList (s : State) : State := s.turnOutbound.beginListing

/-- A listing in progress abandoned (R89). -/
def State.abandonListing (s : State) : State :=
  if s.raster.decoder = .listing then
    { s with raster := { s.raster with fifo := [], decoder := .header, place := .empty, buffer := none, lowSent := false } }
  else s

/-- A fill in progress abandoned by FLUSH (R83.3). -/
def State.abandonFill (s : State) : State :=
  match s.raster.decoder with
  | .fill f =>
    match (s.bank f.bank).binding with
    | some bd => ((s.freeBank f.bank).releaseBinding bd).rasterFault .flushedMidRaster f.handle
    | none => s.freeBank f.bank
  | .header | .waitBank | .drain _ | .discard | .listing => s

/-- A flush of the port (R83). -/
def State.flushPort (s : State) : State :=
  let s1 := s.abandonFill.abandonListing
  { s1 with raster := { s1.raster with fifo := [], loneHalf := none, decoder := .header } }

/-- The word at the FIFO head has gone out: the next word of the listing is loaded behind the others, or the listing ends when none is left
(R88). -/
def State.nextWordOut (s : State) (rest : List Word) : State :=
  match s.raster.buffer with
  | some b =>
    let next := (b.words.drop b.loaded).take 1
    if rest ++ next = [] then
      { s with raster := { s.raster with fifo := [], decoder := .header, place := .empty, buffer := none, lowSent := false } }
    else
      { s with raster := { s.raster with fifo := rest ++ next, lowSent := false,
                                         buffer := some { b with loaded := b.loaded + next.length } } }
  | none => s

end Sys2Proof.Machine
end

