-- ==== Sys2Proof/Machine/Sequencer.lean ====
section
/-! DEFINITION. The exposure sequencer: the job take, the opening of the shutter, and the ends of a job with their outcomes (chapter 6). -/

namespace Sys2Proof.Machine

/-! ## Job take (R107, R108) -/

/-- What a bank's binding gives a job: its kind, its slot and its class factor (R105, R132). -/
def State.jobOf (s : State) : Binding → Option (JobKind × Slot × Nat)
  | .record h => (s.resolve h).map (fun r => (.document h r.cell, r.slot, s.dose.factorOf r.cls))
  | .index sl part => some (.index part, sl, Config.indexFactor)
  | .title sl => some (.title, sl, Config.indexFactor)

/-- The current job record of a take (R105, R108). -/
def State.newJob (s : State) (id : BankId) (kind : JobKind) (sl : Slot) (factor : Nat) (f : Format) : Job :=
  let t := doseTarget (s.dose.baseOf f) factor (s.dose.trimOf sl)
  { bank := id, kind := kind, slot := sl, target := t, limitMs := exposureLimit t s.dose.rate.toNat, fogLimit := fogLimit t,
    arrived := false, panelReady := false }

/-- The record of a document job at its take: IN_FLIGHT with retire-pending clear and the clamped flag of the take (R48, R108). -/
def State.takeRecord (s : State) (kind : JobKind) (clamped : Bool) : State :=
  match kind with
  | .document h _ =>
    match s.resolve h with
    | some r => s.mapRecord r.entry (fun r => { r with state := .inFlight, retirePending := false, clamped := some clamped })
    | none => s
  | .index _ | .title => s

/-- The seven effects of a job take (R108). -/
def State.takeJobOf (s : State) (id : BankId) (rest : List BankId) (kind : JobKind) (sl : Slot) (factor : Nat) (f : Format) : State :=
  let s1 := (s.takeRecord kind (doseClamped (s.dose.baseOf f) factor (s.dose.trimOf sl))).showBank id rest
  { s1 with motion := s1.motion.request (jobTarget f sl kind),
            seq := { s1.seq with path := .preparing, job := some (s.newJob id kind sl factor f), panelTimer := true } }

/-- A job is taken if the path is IDLE, no calibration is pending or running and the queue holds an entry (R107). -/
def State.takeJob (s : State) : State :=
  if s.seq.path = .idle ∧ s.dose.calibration = .none then
    match s.panel.queue with
    | id :: rest =>
      match (s.bank id).binding.bind s.jobOf with
      | some (kind, sl, factor) =>
        match (s.master sl).fields with
        | some f => s.takeJobOf id rest kind sl factor f.format
        | none => s
      | none => s
    | [] => s
  else s

/-! ## What every job end does -/

/-- The shutter closes if it is open (R112, R135). -/
def State.closeShutter (s : State) : State :=
  if s.seq.path = .exposing then { s with dose := s.dose.close } else s

/-- The sequencer drops its job: the panel timer stops, halt-pending clears, and the path state and fault reason are set (R121). -/
def State.dropJob (s : State) (path : PathState) (fault : PathFault) : State :=
  { s with seq := { path := path, haltPending := false, fault := fault, job := none, panelTimer := false } }

/-- The open time written into a document job's record, if at least one pulse was counted (R114). -/
def State.writeOpenTime (s : State) (j : Job) (openMs : Nat) : State :=
  match j.kind with
  | .document h _ =>
    match s.resolve h with
    | some r => if 1 ≤ s.dose.count then s.mapRecord r.entry (fun r => { r with openTime := some openMs }) else s
    | none => s
  | .index _ | .title => s

/-- The SHOW and the move of a job in PREPARING abandoned (R68, R102). -/
def State.abandonPreparation (s : State) : State :=
  { s with panel := s.panel.abandonShow, motion := s.motion.abandon }

/-- The job's master has lost its plate: the Master Table's removal event stands before the sequencer has taken the report (R119). -/
def State.jobPlateGone (s : State) (j : Job) : Bool :=
  decide ((s.master j.slot).state = .failed ∧ (s.master j.slot).failure = some .plateRemoved)

/-! ## Outcomes at the owners (R48, R97, R121) -/

/-- A document job's record at an exposed end (R48). -/
def State.recordExposed (s : State) (h : Handle) : State :=
  match s.resolve h with
  | some r =>
    let s1 := s.mapRecord r.entry (fun r =>
      { r with state := if r.retirePending then .withdrawn else .exposed, retirePending := false, bank := none })
    ((s1.markCell r.slot r.cell .exposed).advance r.slot).settleTest r.slot
  | none => s

/-- A document job's record at a spoiled end (R48). -/
def State.recordSpoiled (s : State) (h : Handle) : State :=
  match s.resolve h with
  | some r =>
    if r.retirePending then s.deleteRecord r (some .void)
    else
      let s1 := s.mapRecord r.entry (fun r => { r with state := .spoiled, bank := none })
      ((s1.markCell r.slot r.cell .void).advance r.slot).settleTest r.slot
  | none => s

/-- A document job's record and bank at a returned end (R48, R97). -/
def State.recordReturned (s : State) (id : BankId) (h : Handle) : State :=
  match s.resolve h with
  | some r =>
    if r.retirePending then (s.freeBank id).deleteRecord r (some .free)
    else (s.mapRecord r.entry (fun r => { r with state := .loaded })).returnBank id
  | none => s.freeBank id

/-- A master failed by a spoiled index part or title: its LOADED banks are freed and its FILLING bank orphaned (R14). The master of an index or
title job is live at its spoiled end (log entry 27). -/
def State.spoilMaster (s : State) (sl : Slot) (why : FailureReason) : State :=
  if (s.master sl).state.live then (s.releaseBanksOf sl).failMaster sl why else s

/-- The outcome exposed handed on (R115). -/
def State.ownersExposed (s : State) (j : Job) : State :=
  match j.kind with
  | .document h _ => s.recordExposed h
  | .index part => s.exposeIndex j.slot part
  | .title => s.exposeTitle j.slot

/-- The outcome spoiled handed on (R116). The title band is no cell, so a spoiled title marks none (R160). -/
def State.ownersSpoiled (s : State) (j : Job) : State :=
  match j.kind with
  | .document h _ => s.recordSpoiled h
  | .index part =>
    let cell := ((s.master j.slot).fields.map (fun f => f.format.indexCell part)).getD 0
    (s.markCell j.slot cell .void).spoilMaster j.slot .indexSpoiled
  | .title => s.spoilMaster j.slot .titleSpoiled

/-- The outcome returned handed on (R97, R116). -/
def State.ownersReturned (s : State) (j : Job) : State :=
  match j.kind with
  | .document h _ => s.recordReturned j.bank h
  | .index _ | .title => s.returnBank j.bank

/-! ## Job ends -/

/-- The normal end (R115): the outcome exposed, the lamp rate, the path IDLE or HALTED, a waiting header, and the next take. -/
def State.endExposed (s : State) (j : Job) (openMs : Nat) : State :=
  let path := if s.seq.haltPending then PathState.halted else PathState.idle
  let s1 := s.writeOpenTime j openMs
  let s2 : State := { s1 with dose := s1.dose.updateRate j.target openMs }
  let s3 := (s2.closeShutter.dropJob path .none).freeBank j.bank
  (s3.ownersExposed j).streamGo.takeJob

/-- A spoiled end (R116, R118). -/
def State.endSpoiled (s : State) (j : Job) (openMs : Nat) (path : PathState) (fault : PathFault) : State :=
  let s1 := ((s.writeOpenTime j openMs).closeShutter.dropJob path fault).freeBank j.bank
  (s1.ownersSpoiled j).streamGo

/-- A returned end of an exposure (R116, R117, R118). -/
def State.endReturned (s : State) (j : Job) (openMs : Nat) (path : PathState) (fault : PathFault) : State :=
  let s1 := (s.writeOpenTime j openMs).closeShutter.dropJob path fault
  (s1.ownersReturned j).streamGo

/-- A job in PREPARING returned: its SHOW and its move are abandoned, and no open time is written (R111, R120). -/
def State.endPreparing (s : State) (j : Job) (path : PathState) (fault : PathFault) : State :=
  ((s.abandonPreparation.dropJob path fault).ownersReturned j).streamGo

/-- A removal end (R119): the shutter closes, or the SHOW and the move are abandoned; the bank is freed; record and cell map stay. -/
def State.endRemoved (s : State) (j : Job) : State :=
  let s1 := if s.seq.path = .preparing then s.abandonPreparation else s.closeShutter
  ((s1.dropJob .faulted .plateRemoved).freeBank j.bank).streamGo

/-- The judgement of R113: the film is marked if the count is at least the fog limit and at least 1. -/
def State.marked (s : State) (j : Job) : Bool := decide (j.fogLimit ≤ s.dose.count ∧ 1 ≤ s.dose.count)

/-! ## Opening the shutter (R110, R112) -/

/-- The shutter opens if the path is PREPARING, both readiness reports are in and no gate runs; if the job's plate is gone, the job ends as a
removal end instead (R110, R112, R119). -/
def State.tryOpen (s : State) : State :=
  match s.seq.path, s.seq.job with
  | .preparing, some j =>
    if j.arrived = true ∧ j.panelReady = true ∧ s.dose.gateRuns = false then
      if s.jobPlateGone j = true then s.endRemoved j
      else { s with seq := { s.seq with path := .exposing }, dose := s.dose.openShutter }
    else s
  | _, _ => s

/-- The Motion Port's ARRIVED (R110). -/
def State.reportArrived (s : State) : State :=
  match s.seq.path, s.seq.job with
  | .preparing, some j => ({ s with seq := { s.seq with job := some { j with arrived := true } } } : State).tryOpen
  | _, _ => s

/-- The Panel Store's PANEL_READY (R110). -/
def State.reportPanelReady (s : State) : State :=
  match s.seq.path, s.seq.job with
  | .preparing, some j =>
    ({ s with seq := { s.seq with job := some { j with panelReady := true }, panelTimer := false } } : State).tryOpen
  | _, _ => s

/-- A preparation fault (R111), or a removal end if the job's plate is gone (R119). -/
def State.preparationFault (s : State) (fault : PathFault) : State :=
  match s.seq.path, s.seq.job with
  | .preparing, some j => if s.jobPlateGone j = true then s.endRemoved j else s.endPreparing j .faulted fault
  | _, _ => s

/-- The end of an exposure short of its target (R113, R116, R118): spoiled if marked, returned if not. -/
def State.endShort (s : State) (j : Job) (openMs : Nat) (spoiledPath : PathState) (spoiledFault : PathFault)
    (returnedPath : PathState) (returnedFault : PathFault) : State :=
  if s.marked j then s.endSpoiled j openMs spoiledPath spoiledFault else s.endReturned j openMs returnedPath returnedFault

/-- The count reaches T with the edge taken now, which is counted: the normal end (R115, R135), or a removal end (R119). -/
def State.reachTarget (s : State) (j : Job) (openMs : Nat) : State :=
  let s1 : State := { s with dose := s.dose.countPulse }
  if s.jobPlateGone j = true then s1.endRemoved j else s1.endExposed j openMs

end Sys2Proof.Machine
end

