-- ==== Sys2Proof/Machine/Exposure.lean ====
section
/-! DEFINITION. The events of the exposure path: the panel, the carriage, the shutter, the photocell, their timers and the lamp drive (chapters 3,
5, 6 and 7). -/

namespace Sys2Proof.Machine

/-- JOB_TAKE (R107, R108). -/
def execJobTake (s : State) : Host.Outcome State Fault Refusal := .next (s.whileRunning State.takeJob)

/-- PNL_SHOW: PNL_SHOW rises for a SHOW that has not been abandoned, and the awaiting flag is set (R100, R102). -/
def execPnlShow (s : State) : Host.Outcome State Fault Refusal :=
  .next (s.whileRunning (fun s =>
    if s.panel.strobing then { s with panel := { s.panel with strobing := false, awaiting := true, showRisen := true } } else s))

/-- PANEL_READY: an edge taken with the awaiting flag set is reported to the sequencer (R101, R110). -/
def execPanelReady (s : State) : Host.Outcome State Fault Refusal :=
  .next (s.whileRunning (fun s =>
    if s.panel.awaiting then ({ s with panel := { s.panel with awaiting := false } } : State).reportPanelReady else s))

/-- MOT_GO: the move message is out, and MOT_GO rises (R64, R68). -/
def execMotGo (s : State) : Host.Outcome State Fault Refusal := .next (s.whileRunning (fun s => { s with motion := s.motion.go }))

/-- IN_POSITION: in MOVING the move has arrived and is reported; in DRAINING the drain ends (R65, R68). -/
def execInPosition (s : State) : Host.Outcome State Fault Refusal :=
  .next (s.whileRunning (fun s =>
    match s.motion.port with
    | .moving => ({ s with motion := s.motion.finish s.motion.targetTurret } : State).reportArrived
    | .draining => { s with motion := s.motion.endDrain s.motion.targetTurret }
    | .idle | .sending => s))

/-- MOTION_FAULT: in MOVING the move has failed and is reported; in DRAINING the drain ends (R66, R68, R111). -/
def execMotionFault (s : State) : Host.Outcome State Fault Refusal :=
  .next (s.whileRunning (fun s =>
    match s.motion.port with
    | .moving => ({ s with motion := s.motion.finish none } : State).preparationFault .motionFault
    | .draining => { s with motion := s.motion.endDrain none }
    | .idle | .sending => s))

/-- MOVE_TIMER_EXPIRY: in MOVING the move has timed out and is reported; in DRAINING the drain ends (R67, R68, R111). -/
def execMoveTimerExpiry (s : State) : Host.Outcome State Fault Refusal :=
  .next (s.whileRunning (fun s =>
    if s.motion.moveTimer = false then s
    else
      match s.motion.port with
      | .moving => ({ s with motion := s.motion.finish none } : State).preparationFault .motionTimeout
      | .draining => { s with motion := s.motion.endDrain none }
      | .idle | .sending => s))

/-- PANEL_TIMEOUT: the panel timer runs out in PREPARING (R109, R111). -/
def execPanelTimeout (s : State) : Host.Outcome State Fault Refusal :=
  .next (s.whileRunning (fun s => if s.seq.panelTimer then s.preparationFault .panelTimeout else s))

/-- SHUTTER_OPEN (R110, R112). -/
def execShutterOpen (s : State) : Host.Outcome State Fault Refusal := .next (s.whileRunning State.tryOpen)

/-- An edge on PHOTO: it is counted while integrating or gating, and the edge that brings an exposure's count to T ends it (R130, R135). -/
def State.pulse (s : State) (openMs : Nat) : State :=
  match s.dose.counter, s.seq.path, s.seq.job with
  | .integrating, .exposing, some j =>
    if j.target ≤ s.dose.count + 1 then s.reachTarget j openMs else { s with dose := s.dose.countPulse }
  | _, _, _ => { s with dose := s.dose.countPulse }

/-- PHOTO_PULSE. -/
def execPhotoPulse (openMs : OpenMs) (s : State) : Host.Outcome State Fault Refusal :=
  .next (s.whileRunning (fun s => s.pulse openMs.val))

/-- COUNT_REACHES_T: the edge that brings the count to T (R115, R135; log entry 10). -/
def execCountReachesT (openMs : OpenMs) (s : State) : Host.Outcome State Fault Refusal :=
  .next (s.whileRunning (fun s =>
    match s.dose.counter, s.seq.path, s.seq.job with
    | .integrating, .exposing, some j => if j.target ≤ s.dose.count + 1 then s.reachTarget j openMs.val else s
    | _, _, _ => s))

/-- LIMIT_EXPIRY: the limit timer reaches L short of the target; the open time is L (R116, R119, R135). -/
def execLimitExpiry (s : State) : Host.Outcome State Fault Refusal :=
  .next (s.whileRunning (fun s =>
    match s.dose.limitTimer, s.seq.path, s.seq.job with
    | true, .exposing, some j =>
      if s.jobPlateGone j = true then s.endRemoved j
      else s.endShort j j.limitMs .faulted .underdose .faulted .lampLow
    | _, _, _ => s))

/-- LAMP_DARK_EXPIRY: the lamp-dark window expires unspent; the count is 0, so the job is returned (R117, R119). -/
def execLampDarkExpiry (s : State) : Host.Outcome State Fault Refusal :=
  .next (s.whileRunning (fun s =>
    match s.dose.darkWindow, s.seq.path, s.seq.job with
    | .running, .exposing, some j =>
      if s.jobPlateGone j = true then s.endRemoved j else s.endReturned j 0 .faulted .lampDark
    | _, _, _ => s))

/-- GATE_END: the gate timer reaches 100 ms; the shutter of a waiting job opens, or a waiting job is taken (R107, R110, R139). -/
def execGateEnd (s : State) : Host.Outcome State Fault Refusal :=
  .next (s.whileRunning (fun s =>
    match s.dose.calibration with
    | .running f => ({ s with dose := s.dose.endGate f } : State).tryOpen.takeJob
    | .none | .pending _ => s))

/-- PWM_PERIOD_START: the lamp duty in force sets the high time of the period (R142). -/
def execPwmPeriodStart (s : State) : Host.Outcome State Fault Refusal :=
  .next (s.whileRunning (fun s => { s with dose := { s.dose with pwmHigh := s.dose.duty } }))

end Sys2Proof.Machine
end

