-- ==== Sys2Proof/Machine/RequestUnit.lean ====
section
/-! DEFINITION. The request unit (chapter 10): the answer of a request, the dispatch checks, and the delivery of the answer to the link interface. -/

namespace Sys2Proof.Machine

/-- The tail a request returns (R172, R189): none, an ACK with a result, a DATA tail with a result and a payload, or a roll byte's code. -/
inductive Reply where
  | silent
  | ack (r : Result)
  | data (r : Result) (payload : List Byte)
  | roll (code : BitVec 4)
  deriving DecidableEq, Repr

/-- What a request comes to: the state with its effects, its tail, the handle of a record it created, and whether its status byte clears
latched flags (R185, R191). -/
structure Answer where
  state    : State
  reply    : Reply
  created  : Option Handle
  clearing : Bool
  deriving DecidableEq, Repr

/-- A request without a tail. -/
def Answer.silent (s : State) : Answer := { state := s, reply := .silent, created := none, clearing := false }

/-- A request refused with a result, or taken with an ACK carrying OK. -/
def Answer.ack (s : State) (r : Result) : Answer := { state := s, reply := .ack r, created := none, clearing := false }

/-- A request answered with a DATA tail carrying OK. -/
def Answer.data (s : State) (payload : List Byte) : Answer :=
  { state := s, reply := .data .ok payload, created := none, clearing := false }

/-- A request answered with a roll byte. -/
def Answer.roll (s : State) (code : BitVec 4) : Answer := { state := s, reply := .roll code, created := none, clearing := false }

/-- The dispatch of a request that only a direct target reaches (R185, R186, R187, R188): a group request goes unanswered; then authority, the
busy check (from which STATUS and MASTER_STATE are exempt) and the code's own checks. -/
def dispatch (dst : Addressing) (authorised exempt : Bool) (own : State → Answer) (s : State) : Answer :=
  match dst with
  | .group => .silent s
  | .direct =>
    if authorised = false then .ack s .denied
    else if s.busy = true ∧ exempt = false then .ack s .busy
    else own s

/-- The supervisor's authority (R186). -/
def fromSupervisor (src : Node) : Bool := decide (src = Config.supervisor)

/-- The authority over the record a handle names: the supervisor, or the record's source node; an unresolved handle passes (R30, R186). -/
def State.recordAuthority (s : State) (src : Node) (h : Handle) : Bool :=
  match s.resolve h with
  | some r => decide (src = Config.supervisor ∨ src = r.source)
  | none => true

/-- The link interface sends a tail: it fills the tail buffer and enters ANSWER (R172), and the pending answer is held (R185). -/
def State.sendTail (s : State) (bytes : TailBytes) (p : PendingAnswer) : State :=
  { s with link := { s.link with iface := .answer, tail := some { bytes := bytes, nextBit := 0, cut := false } }, answer := some p }

/-- The answer of the request unit delivered to the link interface (R172, R185). -/
def Answer.deliver (a : Answer) (dst : Addressing) (code : Byte) : State :=
  let node := a.state.link.nodeId
  match a.reply with
  | .silent => { a.state with link := { a.state.link with iface := .waitMark, tail := none }, answer := none }
  | .ack r =>
    a.state.sendTail (.ack (headByte node r))
      { dst := dst, code := code, result := some r, created := a.created, clearing := a.clearing }
  | .data r payload =>
    a.state.sendTail (.data (headByte node r) none payload)
      { dst := dst, code := code, result := some r, created := a.created, clearing := a.clearing }
  | .roll c =>
    a.state.sendTail (.roll (rollByte node c))
      { dst := dst, code := code, result := none, created := a.created, clearing := a.clearing }

/-- A request taken at the end of its turn gap: only an interface in REQUEST hands one on (R172; log entry 6). -/
def State.request (s : State) (dst : Addressing) (code : Byte) (unit : State → Answer) : State :=
  s.whileRunning (fun s => if s.link.iface = .request then (unit s).deliver dst code else s)

end Sys2Proof.Machine
end

