-- ==== Sys2Proof/Machine/IndexRequests.lean ====
section
/-! DEFINITION. The requests on a master's index and title: INDEX_READ, LISTING and TITLE_SUMMARY (chapter 8). -/

namespace Sys2Proof.Machine

/-- The master states in which LISTING and TITLE_SUMMARY are taken (R154.3, R159.3). -/
def MasterState.listable : MasterState → Bool
  | .opened | .closing | .settled | .indexing | .indexed | .finished => true
  | .empty | .loaded | .releasing | .spent | .failed => false

/-- The master states in which INDEX_READ is taken (R152.2). -/
def MasterState.readable (m : MasterState) : Bool := m.listable || decide (m = .failed)

/-! ## INDEX_READ (R152) -/

/-- The 21-byte payload of INDEX_READ (R152, R194). -/
def State.indexReadPayload (s : State) (sl : Slot) (page : Byte) : List Byte :=
  let l := s.indexList sl
  bytes2 (s.master sl).generation ++ [countByte l.length] ++ indexEntryBytes l[2 * page.toNat]? ++
    indexEntryBytes l[2 * page.toNat + 1]?

/-- The own checks and answer of INDEX_READ. -/
def ownIndexRead (slot page : Byte) (s : State) : Answer :=
  match slotOf? slot with
  | none => .ack s .badParam
  | some sl =>
    if (s.master sl).state.readable = false then .ack s .wrongState else .data s (s.indexReadPayload sl page)

/-- INDEX_READ at the request unit. -/
def unitIndexRead (dst : Addressing) (_src : Node) (slot page : Byte) (s : State) : Answer :=
  dispatch dst true false (ownIndexRead slot page) s

/-- INDEX_READ. -/
def execIndexRead (dst : Addressing) (src : Node) (slot page : Byte) (s : State) : Host.Outcome State Fault Refusal :=
  .next (s.request dst 0x0D (unitIndexRead dst src slot page))

/-! ## LISTING (R154) -/

/-- The own checks and effect of LISTING: the listing is queued, and begins at once where the port already lets it (R86). -/
def ownListing (slot : Byte) (s : State) : Answer :=
  match slotOf? slot with
  | none => .ack s .badParam
  | some sl =>
    if (s.master sl).state = .failed then .ack s .failedMaster
    else if (s.master sl).state.listable = false then .ack s .wrongState
    else if s.raster.place ≠ .empty then .ack s .wrongState
    else .ack ({ s with raster := { s.raster with place := .queued sl } } : State).beginListing .ok

/-- LISTING at the request unit. -/
def unitListing (dst : Addressing) (_src : Node) (slot : Byte) (s : State) : Answer := dispatch dst true false (ownListing slot) s

/-- LISTING. -/
def execListing (dst : Addressing) (src : Node) (slot : Byte) (s : State) : Host.Outcome State Fault Refusal :=
  .next (s.request dst 0x0E (unitListing dst src slot))

/-! ## TITLE_SUMMARY (R159) -/

/-- The 18-byte payload of TITLE_SUMMARY (R159, R194). -/
def State.titleSummaryPayload (s : State) (sl : Slot) : List Byte :=
  let l := s.indexList sl
  let current := l.filter (fun e => decide (e.mark = .current))
  keyBytes ((current.head?.map (·.key)).getD zeroKey) ++ keyBytes ((current.getLast?.map (·.key)).getD zeroKey) ++
    [countByte current.length, countByte (l.countP (fun e => decide (e.mark = .withdrawn)))] ++ bytes2 (s.master sl).generation

/-- The own checks and answer of TITLE_SUMMARY. -/
def ownTitleSummary (slot : Byte) (s : State) : Answer :=
  match slotOf? slot with
  | none => .ack s .badParam
  | some sl =>
    if (s.master sl).state = .failed then .ack s .failedMaster
    else if (s.master sl).state.listable = false then .ack s .wrongState
    else .data s (s.titleSummaryPayload sl)

/-- TITLE_SUMMARY at the request unit. -/
def unitTitleSummary (dst : Addressing) (_src : Node) (slot : Byte) (s : State) : Answer :=
  dispatch dst true false (ownTitleSummary slot) s

/-- TITLE_SUMMARY. -/
def execTitleSummary (dst : Addressing) (src : Node) (slot : Byte) (s : State) : Host.Outcome State Fault Refusal :=
  .next (s.request dst 0x0F (unitTitleSummary dst src slot))

end Sys2Proof.Machine
end

