-- ==== Sys2Proof/Machine/MasterRequests.lean ====
section
/-! DEFINITION. The requests on masters and on the writer as a whole: STATUS, MASTER_OPEN, MASTER_CLOSE, MASTER_STATE and MASTER_RELEASE
(chapters 1 and 10). -/

namespace Sys2Proof.Machine

/-! ## STATUS (R190) -/

/-- The 13-byte payload of STATUS (R190, R194). -/
def State.statusPayload (s : State) : List Byte :=
  [s.seq.path.code, s.panel.banksByte] ++ bytes2 (countHalf s.dir.freeList.length) ++
    [s.link.fault.code, s.raster.faultReason.code] ++ bytes2 s.raster.faultHandle ++ bytes2 s.dose.rate ++
    bytes2 s.dose.reference ++ [s.seq.fault.code]

/-- The own checks and the answer of a direct STATUS (R190). -/
def ownStatus (clear : Byte) (s : State) : Answer :=
  if clear = 0 ∨ clear = 1 then { Answer.data s s.statusPayload with clearing := decide (clear = 1) } else .ack s .badParam

/-- STATUS at the request unit: a group STATUS is answered with a roll byte, busy or not (R186, R188, R190). -/
def unitStatus (dst : Addressing) (src : Node) (clear : Byte) (s : State) : Answer :=
  match dst with
  | .group => .roll s s.statusRollCode
  | .direct => dispatch .direct (decide (clear ≠ 1) || fromSupervisor src) true (ownStatus clear) s

/-- STATUS. -/
def execStatus (dst : Addressing) (src : Node) (clear : Byte) (s : State) : Host.Outcome State Fault Refusal :=
  .next (s.request dst 0x01 (unitStatus dst src clear))

/-! ## MASTER_OPEN (R9, R10) -/

/-- The range of an OPEN master of another slot overlaps a range (R9.5). -/
def State.overlapsOpen (s : State) (sl : Slot) (low high : Account) : Bool :=
  allSlots.any (fun o => decide (o ≠ sl ∧ (s.master o).state = .opened) &&
    ((s.master o).fields.map (fun f => decide (low.toNat ≤ f.accountHigh.toNat ∧ f.accountLow.toNat ≤ high.toNat))).getD false)

/-- The master after a taken MASTER_OPEN (R10). -/
def openedMaster (f : Format) (label : Half) (low high : Account) : Master :=
  { state := .opened, generation := 0, failure := none,
    fields := some { format := f, label := label, accountLow := low, accountHigh := high, partsExposed := 0, indexBindings := 0,
                     cells := f.freshCells } }

/-- The own checks and effect of MASTER_OPEN (R9, R10). -/
def ownMasterOpen (slot format : Byte) (label : Half) (low high : Account) (s : State) : Answer :=
  match slotOf? slot with
  | none => .ack s .badParam
  | some sl =>
    if (s.master sl).state = .failed then .ack s .failedMaster
    else if (s.master sl).state ≠ .loaded then .ack s .wrongState
    else
      match formatOf? format with
      | none => .ack s .badParam
      | some f =>
        if high.toNat < low.toNat then .ack s .badParam
        else if s.overlapsOpen sl low high = true then .ack s .outOfRange
        else .ack (s.setMaster sl (openedMaster f label low high)) .ok

/-- MASTER_OPEN at the request unit. -/
def unitMasterOpen (dst : Addressing) (src : Node) (slot format : Byte) (label : Half) (low high : Account) (s : State) : Answer :=
  dispatch dst (fromSupervisor src) false (ownMasterOpen slot format label low high) s

/-- MASTER_OPEN. -/
def execMasterOpen (dst : Addressing) (src : Node) (slot format : Byte) (label : Half) (low high : Account) (s : State) :
    Host.Outcome State Fault Refusal :=
  .next (s.request dst 0x02 (unitMasterOpen dst src slot format label low high))

/-! ## MASTER_CLOSE (R11) -/

/-- The own checks and effect of MASTER_CLOSE; the settled condition is tested in the same event. -/
def ownMasterClose (slot : Byte) (s : State) : Answer :=
  match slotOf? slot with
  | none => .ack s .badParam
  | some sl =>
    if (s.master sl).state = .failed then .ack s .failedMaster
    else if (s.master sl).state ≠ .opened then .ack s .wrongState
    else .ack ((s.mapMaster sl (fun m => { m with state := .closing })).settleTest sl) .ok

/-- MASTER_CLOSE at the request unit. -/
def unitMasterClose (dst : Addressing) (src : Node) (slot : Byte) (s : State) : Answer :=
  dispatch dst (fromSupervisor src) false (ownMasterClose slot) s

/-- MASTER_CLOSE. -/
def execMasterClose (dst : Addressing) (src : Node) (slot : Byte) (s : State) : Host.Outcome State Fault Refusal :=
  .next (s.request dst 0x03 (unitMasterClose dst src slot))

/-! ## MASTER_STATE (R15) -/

/-- The record states in the order of their codes. -/
def allRecStates : List RecState := [.awaiting, .filling, .loaded, .inFlight, .exposed, .withdrawn, .spoiled, .lost]

/-- The 16-byte payload of MASTER_STATE (R15, R194). -/
def State.masterStatePayload (s : State) (sl : Slot) : List Byte :=
  let m := s.master sl
  [m.state.code, (m.fields.map (·.format.code)).getD 0] ++ bytes2 ((m.fields.map (·.label)).getD 0) ++
    allRecStates.map (fun st => countByte ((s.recordsOf sl).countP (fun r => decide (r.state = st)))) ++
    [countByte ((m.fields.map (·.freeCells)).getD 0)] ++ bytes2 m.generation ++ [failureCode m.failure]

/-- The own check and answer of MASTER_STATE. -/
def ownMasterState (slot : Byte) (s : State) : Answer :=
  match slotOf? slot with
  | none => .ack s .badParam
  | some sl => .data s (s.masterStatePayload sl)

/-- MASTER_STATE at the request unit: answered in full while a long operation runs. -/
def unitMasterState (dst : Addressing) (_src : Node) (slot : Byte) (s : State) : Answer :=
  dispatch dst true true (ownMasterState slot) s

/-- MASTER_STATE. -/
def execMasterState (dst : Addressing) (src : Node) (slot : Byte) (s : State) : Host.Outcome State Fault Refusal :=
  .next (s.request dst 0x04 (unitMasterState dst src slot))

/-! ## MASTER_RELEASE (R16, R17) -/

/-- The states a master can be released from (R16.2). -/
def MasterState.releasable : MasterState → Bool
  | .opened | .closing | .settled | .indexing | .indexed | .finished | .failed => true
  | .empty | .loaded | .spent | .releasing => false

/-- The own checks and effect of MASTER_RELEASE; the banks it frees are handed to a waiting header (R93). -/
def ownMasterRelease (slot : Byte) (s : State) : Answer :=
  match slotOf? slot with
  | none => .ack s .badParam
  | some sl =>
    if (s.master sl).state.releasable = false then .ack s .wrongState
    else if s.bankInUse sl .a || s.bankInUse sl .b then .ack s .wrongState
    else .ack (s.enterReleasing sl).streamGo .ok

/-- MASTER_RELEASE at the request unit. -/
def unitMasterRelease (dst : Addressing) (src : Node) (slot : Byte) (s : State) : Answer :=
  dispatch dst (fromSupervisor src) false (ownMasterRelease slot) s

/-- MASTER_RELEASE. -/
def execMasterRelease (dst : Addressing) (src : Node) (slot : Byte) (s : State) : Host.Outcome State Fault Refusal :=
  .next (s.request dst 0x05 (unitMasterRelease dst src slot))

end Sys2Proof.Machine
end

