-- ==== Sys2Proof/Machine/PathRequests.lean ====
section
/-! DEFINITION. The supervisor's requests on the exposure path and the dose unit: HALT, RESUME, CALIBRATE, SET_DOSE, SET_TRIM and SET_LAMP
(chapters 6 and 7). -/

namespace Sys2Proof.Machine

/-! ## HALT and RESUME (R123, R124) -/

/-- The effect of HALT by the path state (R123). -/
def State.haltPath (s : State) : State :=
  match s.seq.path with
  | .idle => { s with seq := { s.seq with path := .halted } }
  | .preparing | .exposing => { s with seq := { s.seq with haltPending := true } }
  | .halted | .faulted => s

/-- HALT at the request unit. -/
def unitHalt (dst : Addressing) (src : Node) (s : State) : Answer :=
  dispatch dst (fromSupervisor src) false (fun s => .ack s.haltPath .ok) s

/-- HALT. -/
def execHalt (dst : Addressing) (src : Node) (s : State) : Host.Outcome State Fault Refusal := .next (s.request dst 0x10 (unitHalt dst src))

/-- The own check and effect of RESUME: the path is IDLE, and takes a job in the same event if it can (R124). -/
def ownResume (s : State) : Answer :=
  if s.seq.path = .halted ∨ s.seq.path = .faulted then
    .ack ({ s with seq := { s.seq with path := .idle, fault := .none } } : State).takeJob .ok
  else .ack s .wrongState

/-- RESUME at the request unit. -/
def unitResume (dst : Addressing) (src : Node) (s : State) : Answer := dispatch dst (fromSupervisor src) false ownResume s

/-- RESUME. -/
def execResume (dst : Addressing) (src : Node) (s : State) : Host.Outcome State Fault Refusal :=
  .next (s.request dst 0x11 (unitResume dst src))

/-! ## CALIBRATE (R138) -/

/-- The own checks and effect of CALIBRATE: pending in EXPOSING, running at once in every other path state. -/
def ownCalibrate (flag : Byte) (s : State) : Answer :=
  if ¬ (flag = 0 ∨ flag = 1) then .ack s .badParam
  else if s.dose.calibration ≠ .none then .ack s .busy
  else if s.seq.path = .exposing then .ack { s with dose := { s.dose with calibration := .pending (decide (flag = 1)) } } .ok
  else .ack { s with dose := s.dose.startGate (decide (flag = 1)) } .ok

/-- CALIBRATE at the request unit. -/
def unitCalibrate (dst : Addressing) (src : Node) (flag : Byte) (s : State) : Answer :=
  dispatch dst (fromSupervisor src) false (ownCalibrate flag) s

/-- CALIBRATE. -/
def execCalibrate (dst : Addressing) (src : Node) (flag : Byte) (s : State) : Host.Outcome State Fault Refusal :=
  .next (s.request dst 0x12 (unitCalibrate dst src flag))

/-! ## SET_DOSE (R144) -/

/-- The own checks and effect of SET_DOSE. -/
def ownSetDose (table index : Byte) (value : Half) (s : State) : Answer :=
  if table = 0 then
    match formatOf? index with
    | some f =>
      if value = 0 then .ack s .badParam else .ack { s with dose := { s.dose with base := s.dose.base.set f.baseIndex value } } .ok
    | none => .ack s .badParam
  else if table = 1 then
    if h : index.toNat < 8 then
      if value = 0 ∨ 255 < value.toNat then .ack s .badParam
      else .ack { s with dose := { s.dose with classes := s.dose.classes.set index.toNat (value.setWidth 8) h } } .ok
    else .ack s .badParam
  else .ack s .badParam

/-- SET_DOSE at the request unit. -/
def unitSetDose (dst : Addressing) (src : Node) (table index : Byte) (value : Half) (s : State) : Answer :=
  dispatch dst (fromSupervisor src) false (ownSetDose table index value) s

/-- SET_DOSE. -/
def execSetDose (dst : Addressing) (src : Node) (table index : Byte) (value : Half) (s : State) : Host.Outcome State Fault Refusal :=
  .next (s.request dst 0x13 (unitSetDose dst src table index value))

/-! ## SET_TRIM (R145) -/

/-- The own checks and effect of SET_TRIM. -/
def ownSetTrim (slot value : Byte) (s : State) : Answer :=
  match slotOf? slot with
  | none => .ack s .badParam
  | some sl =>
    if value = 0 then .ack s .badParam
    else if (s.master sl).state = .failed then .ack s .failedMaster
    else .ack { s with dose := { s.dose with trims := s.dose.trims.set sl value } } .ok

/-- SET_TRIM at the request unit. -/
def unitSetTrim (dst : Addressing) (src : Node) (slot value : Byte) (s : State) : Answer :=
  dispatch dst (fromSupervisor src) false (ownSetTrim slot value) s

/-- SET_TRIM. -/
def execSetTrim (dst : Addressing) (src : Node) (slot value : Byte) (s : State) : Host.Outcome State Fault Refusal :=
  .next (s.request dst 0x14 (unitSetTrim dst src slot value))

/-! ## SET_LAMP (R143) -/

/-- The effect of SET_LAMP: held while the shutter is open or a gate runs, and at once otherwise. -/
def State.setLamp (s : State) (duty : Byte) : State :=
  if s.seq.path = .exposing ∨ s.dose.gateRuns = true then { s with dose := { s.dose with heldDuty := some duty } }
  else { s with dose := { s.dose with duty := duty } }

/-- SET_LAMP at the request unit. -/
def unitSetLamp (dst : Addressing) (src : Node) (duty : Byte) (s : State) : Answer :=
  dispatch dst (fromSupervisor src) false (fun s => .ack (s.setLamp duty) .ok) s

/-- SET_LAMP. -/
def execSetLamp (dst : Addressing) (src : Node) (duty : Byte) (s : State) : Host.Outcome State Fault Refusal :=
  .next (s.request dst 0x15 (unitSetLamp dst src duty))

end Sys2Proof.Machine
end

