-- ==== Sys2Proof/Machine/RecordRequests.lean ====
section
/-! DEFINITION. The requests on placement records: PLACE, LOOKUP, FETCH, REKEY, SET_CLASS, RETIRE and REPLACE (chapter 2). -/

namespace Sys2Proof.Machine

/-! ## PLACE (R31, R32) -/

/-- The record with a key that is not WITHDRAWN, if there is one (R28, R31, R35). Where the loss of WITHDRAWN records has left several, which
of them is a free value (log entry 22). -/
def State.currentWith (s : State) (k : Key) : Option Record :=
  match s.dir.keyTable.filter (fun r => decide (r.key = k ∧ r.state ≠ .withdrawn)) with
  | [] => none
  | [r] => some r
  | several => several[Config.freeChoice (keyOrder k) several.length % several.length]?

/-- The dose class a parameter byte names, if it names one of 0 to 7. -/
def classOf? (b : Byte) : Option DoseClass := if h : b.toNat < 8 then some ⟨b.toNat, h⟩ else none

/-- A key as REKEY and PLACE require it: neither cycle nor page is 0. -/
def keyValid (k : Key) : Bool := decide (k.cycle ≠ 0 ∧ k.page ≠ 0)

/-- A handle and a record image, as LOOKUP and a DUPLICATE answer give them (R37). -/
def State.imageWithHandle (s : State) (r : Record) : List Byte := bytes2 (s.handleOfRecord r) ++ recordImage r

/-- The record a taken PLACE creates (R32). -/
def placedRecord (e : Entry) (k : Key) (cls : DoseClass) (sl : Slot) (cell : Nat) (src : Node) : Record :=
  { entry := e, key := k, slot := sl, cell := cell, state := .awaiting, retirePending := false, cls := cls, source := src,
    bank := none, openTime := none, clamped := none }

/-- The state after a taken PLACE (R32): the head entry leaves the free list, the cell is HELD, the record is filed, the generation
advances. -/
def State.placeRecord (s : State) (r : Record) (rest : List Entry) : State :=
  let s1 : State := { s with dir := { s.dir with freeList := rest, keyTable := KeyTable.file r s.dir.keyTable } }
  (s1.markCell r.slot r.cell .held).advance r.slot

/-- The own checks and effect of PLACE, in order (R31, R32). A group request that no OPEN master covers is left unanswered. -/
def ownPlace (dst : Addressing) (src : Node) (k : Key) (cls : Byte) (s : State) : Answer :=
  match classOf? cls, keyValid k with
  | some c, true =>
    match s.currentWith k with
    | some r => { Answer.data s (s.imageWithHandle r) with reply := .data .duplicate (s.imageWithHandle r) }
    | none =>
      match s.openCovering k.account with
      | none =>
        match dst with
        | .direct => .ack s .outOfRange
        | .group => .silent s
      | some sl =>
        match s.lowestFree sl with
        | none => .ack s .masterFull
        | some cell =>
          match s.dir.freeList with
          | [] => .ack s .directoryFull
          | e :: rest =>
            let h := handleOf e s.dir.stamps[e]
            { Answer.data (s.placeRecord (placedRecord e k c sl cell src) rest) ([countByte sl, countByte cell] ++ bytes2 h) with
              created := some h }
  | _, _ => .ack s .badParam

/-- PLACE at the request unit: no authority check; a busy writer answers a direct PLACE BUSY and leaves a group PLACE unanswered (R185,
R188). -/
def unitPlace (dst : Addressing) (src : Node) (k : Key) (cls : Byte) (s : State) : Answer :=
  match dst with
  | .direct => dispatch .direct true false (ownPlace .direct src k cls) s
  | .group => if s.busy then .silent s else ownPlace .group src k cls s

/-- PLACE. -/
def execPlace (dst : Addressing) (src : Node) (k : Key) (cls : Byte) (s : State) : Host.Outcome State Fault Refusal :=
  .next (s.request dst 0x06 (unitPlace dst src k cls))

/-! ## LOOKUP (R35, R36) -/

/-- The records with a key, in key-table order. -/
def State.recordsWith (s : State) (k : Key) : List Record := s.dir.keyTable.filter (fun r => decide (r.key = k))

/-- The record LOOKUP chooses: the one not WITHDRAWN, or else the last WITHDRAWN one (R35). -/
def State.chosenWith (s : State) (k : Key) : Option Record := (s.currentWith k).or (s.recordsWith k).getLast?

/-- The answer of a direct LOOKUP (R35). -/
def ownLookup (k : Key) (s : State) : Answer :=
  match s.chosenWith k with
  | some r => .data s (s.imageWithHandle r ++ [countByte (min 255 (s.recordsWith k).length)])
  | none => .ack s .notFound

/-- A direct LOOKUP at the request unit. -/
def unitLookup (_src : Node) (k : Key) (s : State) : Answer := dispatch .direct true false (ownLookup k) s

/-- LOOKUP. -/
def execLookup (src : Node) (k : Key) (s : State) : Host.Outcome State Fault Refusal :=
  .next (s.request .direct 0x07 (unitLookup src k))

/-- A group LOOKUP at the request unit (R36, R188): a roll byte where the writer holds the key and is not busy. -/
def unitGroupLookup (_src : Node) (k : Key) (s : State) : Answer :=
  if s.busy then .silent s
  else
    match s.chosenWith k with
    | some r => .roll s (bit (decide (1 < (s.recordsWith k).length)) ++ r.state.code)
    | none => .silent s

/-- A LOOKUP sent to the writer group. -/
def execGroupLookup (src : Node) (k : Key) (s : State) : Host.Outcome State Fault Refusal :=
  .next (s.request .group 0x07 (unitGroupLookup src k))

/-! ## FETCH (R37) -/

/-- The answer of FETCH. -/
def ownFetch (h : Handle) (s : State) : Answer :=
  match s.resolve h with
  | some r => .data s (recordImage r)
  | none => .ack s .notFound

/-- FETCH at the request unit. -/
def unitFetch (dst : Addressing) (_src : Node) (h : Handle) (s : State) : Answer := dispatch dst true false (ownFetch h) s

/-- FETCH. -/
def execFetch (dst : Addressing) (src : Node) (h : Handle) (s : State) : Host.Outcome State Fault Refusal :=
  .next (s.request dst 0x08 (unitFetch dst src h))

/-! ## REKEY (R38 to R40) -/

/-- The record states REKEY and SET_CLASS serve. -/
def RecState.changeable : RecState → Bool
  | .awaiting | .filling | .loaded => true
  | .inFlight | .exposed | .withdrawn | .spoiled | .lost => false

/-- Another record than that of an entry holds a key and is not WITHDRAWN (R38.5). -/
def State.keyTaken (s : State) (e : Entry) (k : Key) : Bool :=
  s.dir.keyTable.any (fun r => decide (r.entry ≠ e ∧ r.key = k ∧ r.state ≠ .withdrawn))

/-- A record refiled with the values `r'`, last among the records with its key (R28). -/
def State.refile (s : State) (r' : Record) : State :=
  s.setKeyTable (KeyTable.file r' (KeyTable.drop r'.entry s.dir.keyTable))

/-- A REKEY within the record's own master (R39). -/
def State.rekeyWithin (s : State) (r : Record) (k : Key) : State :=
  (if r.key = k then s else s.refile { r with key := k }).advance r.slot

/-- A REKEY that moves the record to cell `cell` of the master of slot `sl` (R40). -/
def State.rekeyMove (s : State) (r : Record) (k : Key) (sl : Slot) (cell : Nat) : State :=
  let s1 := s.refile { r with key := k, slot := sl, cell := cell }
  let s2 := (s1.markCell sl cell .held).markCell r.slot r.cell .free
  ((s2.advance r.slot).advance sl).settleTest r.slot

/-- The own checks and effect of REKEY, in order (R38). -/
def ownRekey (h : Handle) (k : Key) (s : State) : Answer :=
  if keyValid k = false then .ack s .badParam
  else
    match s.resolve h with
    | none => .ack s .notFound
    | some r =>
      if (s.master r.slot).state = .failed then .ack s .failedMaster
      else if r.state.changeable = false then .ack s .wrongState
      else if s.keyTaken r.entry k = true then .ack s .duplicate
      else if s.slotCovers r.slot k.account = true then .data (s.rekeyWithin r k) [countByte r.slot, countByte r.cell]
      else
        match s.openCovering k.account with
        | none => .ack s .outOfRange
        | some sl =>
          match s.lowestFree sl with
          | none => .ack s .masterFull
          | some cell => .data (s.rekeyMove r k sl cell) [countByte sl, countByte cell]

/-- REKEY at the request unit. -/
def unitRekey (dst : Addressing) (src : Node) (h : Handle) (k : Key) (s : State) : Answer :=
  dispatch dst (s.recordAuthority src h) false (ownRekey h k) s

/-- REKEY. -/
def execRekey (dst : Addressing) (src : Node) (h : Handle) (k : Key) (s : State) : Host.Outcome State Fault Refusal :=
  .next (s.request dst 0x09 (unitRekey dst src h k))

/-! ## SET_CLASS (R41) -/

/-- The own checks and effect of SET_CLASS. -/
def ownSetClass (h : Handle) (cls : Byte) (s : State) : Answer :=
  match classOf? cls with
  | none => .ack s .badParam
  | some c =>
    match s.resolve h with
    | none => .ack s .notFound
    | some r =>
      if (s.master r.slot).state = .failed then .ack s .failedMaster
      else if r.state.changeable = false then .ack s .wrongState
      else .ack (s.mapRecord r.entry (fun r => { r with cls := c })) .ok

/-- SET_CLASS at the request unit. -/
def unitSetClass (dst : Addressing) (src : Node) (h : Handle) (cls : Byte) (s : State) : Answer :=
  dispatch dst (s.recordAuthority src h) false (ownSetClass h cls) s

/-- SET_CLASS. -/
def execSetClass (dst : Addressing) (src : Node) (h : Handle) (cls : Byte) (s : State) : Host.Outcome State Fault Refusal :=
  .next (s.request dst 0x0A (unitSetClass dst src h cls))

/-! ## RETIRE (R42 to R45) -/

/-- The outcome byte of RETIRE by the record's state (R45, R194): DELETED, WITHDRAWN or PENDING. -/
def RecState.retireOutcome : RecState → Byte
  | .exposed => 1
  | .inFlight => 2
  | .awaiting | .filling | .loaded | .withdrawn | .spoiled | .lost => 0

/-- The master states in which RETIRE is refused (R42.2). -/
def MasterState.indexFrozen : MasterState → Bool
  | .indexing | .indexed | .finished => true
  | .empty | .loaded | .opened | .closing | .settled | .releasing | .spent | .failed => false

/-- The own checks and effect of RETIRE; a bank it frees is handed to a waiting header (R93). -/
def ownRetire (h : Handle) (s : State) : Answer :=
  match s.resolve h with
  | none => .ack s .notFound
  | some r =>
    if (s.master r.slot).state.indexFrozen = true then .ack s .wrongState
    else if r.state = .withdrawn then .ack s .wrongState
    else .data (s.retireRecord r).streamGo [r.state.retireOutcome]

/-- RETIRE at the request unit. -/
def unitRetire (dst : Addressing) (src : Node) (h : Handle) (s : State) : Answer :=
  dispatch dst (s.recordAuthority src h) false (ownRetire h) s

/-- RETIRE. -/
def execRetire (dst : Addressing) (src : Node) (h : Handle) (s : State) : Host.Outcome State Fault Refusal :=
  .next (s.request dst 0x0B (unitRetire dst src h))

/-! ## REPLACE (R46) -/

/-- A SPOILED record moved to a FREE cell of its master (R46). -/
def State.replaceRecord (s : State) (r : Record) (cell : Nat) : State :=
  ((s.mapRecord r.entry (fun r => { r with state := .awaiting, cell := cell, openTime := none, clamped := none })).markCell
    r.slot cell .held).advance r.slot

/-- The own checks and effect of REPLACE. -/
def ownReplace (h : Handle) (s : State) : Answer :=
  match s.resolve h with
  | none => .ack s .notFound
  | some r =>
    if (s.master r.slot).state = .failed then .ack s .failedMaster
    else if r.state ≠ .spoiled ∨ ¬ ((s.master r.slot).state = .opened ∨ (s.master r.slot).state = .closing) then .ack s .wrongState
    else
      match s.lowestFree r.slot with
      | none => .ack s .masterFull
      | some cell => .data (s.replaceRecord r cell) [countByte cell]

/-- REPLACE at the request unit. -/
def unitReplace (dst : Addressing) (src : Node) (h : Handle) (s : State) : Answer :=
  dispatch dst (s.recordAuthority src h) false (ownReplace h) s

/-- REPLACE. -/
def execReplace (dst : Addressing) (src : Node) (h : Handle) (s : State) : Host.Outcome State Fault Refusal :=
  .next (s.request dst 0x0C (unitReplace dst src h))

end Sys2Proof.Machine
end

