-- ==== Sys2Proof/Machine/LinkFrames.lean ====
section
/-! DEFINITION. The events of the cell link: marks, the turn gap, invalid symbols, breaks, gaps, and the fate of a tail (chapter 9). -/

namespace Sys2Proof.Machine

/-! ## Shared effects -/

/-- The link interface enters SYNC and waits for a close gap, whose count runs if the line is recessive (R167). No tail is under way, and no
answer is pending. -/
def State.enterSync (s : State) (recessive : Bool) : State :=
  { s with link := { s.link with iface := .sync, tail := none, gapCount := recessive }, answer := none }

/-- The status byte read from Supervision as its first bit period begins; for a clearing STATUS the latched flags it shows set are cleared
(R176, R191). -/
def State.readStatusByte (s : State) : State :=
  match s.link.tail with
  | some { bytes := .data head none payload, nextBit := _, cut := false } =>
    let b := s.statusByte
    let s1 : State := { s with link := { s.link with tail := some { bytes := .data head (some b) payload, nextBit := 8, cut := false } } }
    if (s.answer.map (·.clearing)).getD false = true then s1.clearShown b else s1
  | _ => s

/-- The report of a cut-off tail at the request unit: a placement of this frame is rolled back (R33), and a bank it frees is handed to a
waiting header (R93). -/
def State.reportCutOff (s : State) : State :=
  match s.answer.bind (·.created) with
  | some h =>
    match s.resolve h with
    | some r => (s.retireRecord r).streamGo
    | none => s
  | none => s

/-- A lost tail that answers a group PLACE with a result that shows a range clash (R34). -/
def PendingAnswer.clashes (p : PendingAnswer) : Bool :=
  decide (p.dst = .group ∧ p.code = 0x06 ∧ (p.result = some .ok ∨ p.result = some .duplicate ∨ p.result = some .masterFull ∨
    p.result = some .directoryFull))

/-- Lost arbitration settled: CLS for a lost group PLACE, and then WAIT_MARK, or ROLL_WAIT for a roll byte (R34, R174). -/
def State.settleLoss (s : State) : State :=
  let s1 := if (s.answer.map (·.clashes)).getD false = true then s.latchClash else s
  match s1.link.tail with
  | some { bytes := .roll b, nextBit := _, cut := _ } =>
    { s1 with link := { s1.link with iface := .rollWait, tail := some { bytes := .roll b, nextBit := 0, cut := false } }, answer := none }
  | _ => { s1 with link := { s1.link with iface := .waitMark, tail := none }, answer := none }

/-- The cause of a cut-off settled (R174, R180). -/
def State.settleCause (s : State) : CutCause → State
  | .lostArbitration => s.settleLoss
  | .bitError => (s.linkFault .bitError).enterSync true
  | .breakPulse => s.enterSync false
  | .invalidSymbol => (s.linkFault .badSymbol).enterSync true
  | .unsettled => { s with link := { s.link with tail := s.link.tail.map (fun t => { t with cut := true }) } }

/-- The state once a tail has come to a bit: from bit 8 on the status byte of a DATA tail has been read (R176, R191; log entry 8). -/
def State.tailAt (s : State) (atBit : Nat) : State := if 8 ≤ atBit then s.readStatusByte else s

/-- A tail cut off at a bit, and its cause (R174). A tail already cut off with its cause open is not reported again. -/
def State.cutOff (s : State) (atBit : Nat) (cause : CutCause) : State :=
  match s.link.tail with
  | some t =>
    if t.cut then s.settleCause cause
    else
      let s1 := s.tailAt atBit
      let s2 : State := { s1 with link := { s1.link with tail := s1.link.tail.map (fun t => { t with nextBit := atBit }) } }
      s2.reportCutOff.settleCause cause
  | none => s

/-- A report of TAIL_CUT_OFF taken if the line can show its cause at its bit (R174; log entry 3). -/
def State.takeCutOff (s : State) (atBit : Nat) (cause : CutCause) : State :=
  if ((s.tailAt atBit).link.tail.map (fun t => t.shows atBit cause)).getD false = true then s.cutOff atBit cause else s

/-- The bit a tail has reached as far as a command has told it. -/
def State.tailBit (s : State) : Nat := (s.link.tail.map (·.nextBit)).getD 0

/-- An invalid symbol, by the interface state (R168, R174, R177, R183). -/
def State.onInvalidSymbol (s : State) : State :=
  match s.link.iface with
  | .off | .waitMark => s
  | .sync => { s with link := { s.link with gapCount := true } }
  | .request | .rollWait => (s.linkFault .badSymbol).enterSync true
  | .answer => s.cutOff s.tailBit .invalidSymbol

/-! ## Marks, breaks and gaps -/

/-- OPENING_MARK: in WAIT_MARK it begins a frame (R168); in a frame it is an invalid symbol (R166); in SYNC it restarts the count (R183). -/
def execOpeningMark (s : State) : Host.Outcome State Fault Refusal :=
  .next (s.whileRunning (fun s =>
    match s.link.iface with
    | .waitMark => { s with link := { s.link with iface := .request, rx := { bytes := [], bits := [] }, gapCount := false } }
    | .off | .sync | .request | .answer | .rollWait => s.onInvalidSymbol))

/-- INVALID_SYMBOL. -/
def execInvalidSymbol (s : State) : Host.Outcome State Fault Refusal := .next (s.whileRunning State.onInvalidSymbol)

/-- BREAK: SYNC from every state but OFF, with no fault; a request is dropped, and a tail cut off (R180). -/
def execBreak (s : State) : Host.Outcome State Fault Refusal :=
  .next (s.whileRunning (fun s =>
    match s.link.iface with
    | .off => s
    | .answer => s.cutOff s.tailBit .breakPulse
    | .request => ({ s with link := { s.link with rx := { bytes := [], bits := [] } } } : State).enterSync false
    | .sync | .waitMark | .rollWait => s.enterSync false))

/-- CLOSE_GAP: WAIT_MARK from SYNC (R167). -/
def execCloseGap (s : State) : Host.Outcome State Fault Refusal :=
  .next (s.whileRunning (fun s =>
    match s.link.iface with
    | .sync => { s with link := { s.link with iface := .waitMark, gapCount := false } }
    | .off | .waitMark | .request | .answer | .rollWait => s))

/-- SYNC_COUNT_RESTART: a pulse in SYNC restarts the close-gap count at its rising edge (R183). -/
def execSyncCountRestart (s : State) : Host.Outcome State Fault Refusal :=
  .next (s.whileRunning (fun s =>
    match s.link.iface with
    | .sync => { s with link := { s.link with gapCount := true } }
    | .off | .waitMark | .request | .answer | .rollWait => s))

/-- REQUEST_TOO_LONG: a link fault BAD_LENGTH, and SYNC (R168). -/
def execRequestTooLong (s : State) : Host.Outcome State Fault Refusal :=
  .next (s.whileRunning (fun s =>
    match s.link.iface with
    | .request => (s.linkFault .badLength).enterSync true
    | .off | .sync | .waitMark | .answer | .rollWait => s))

/-! ## The turn gap (R172) -/

/-- A request whose parameters do not have the code's length: BAD_PARAM to a direct request, no tail to a group request (R185, R188). -/
def wrongLength (dst : Addressing) (s : State) : Answer :=
  match dst with
  | .direct => .ack s .badParam
  | .group => .silent s

/-- A request code at the request unit with its parameter bytes, read as R193 lays them out (R184, R185, R188). -/
def serve (dst : Addressing) (src : Node) (code : Byte) (params : List Byte) (s : State) : Answer :=
  match code.toNat with
  | 0x01 => match params with
    | [c] => unitStatus dst src c s
    | _ => wrongLength dst s
  | 0x02 => match params with
    | [sl, f, l1, l0, a4, a3, a2, a1, a0, b4, b3, b2, b1, b0] =>
      unitMasterOpen dst src sl f (ofBytes2 l1 l0) (ofBytes5 a4 a3 a2 a1 a0) (ofBytes5 b4 b3 b2 b1 b0) s
    | _ => wrongLength dst s
  | 0x03 => match params with
    | [sl] => unitMasterClose dst src sl s
    | _ => wrongLength dst s
  | 0x04 => match params with
    | [sl] => unitMasterState dst src sl s
    | _ => wrongLength dst s
  | 0x05 => match params with
    | [sl] => unitMasterRelease dst src sl s
    | _ => wrongLength dst s
  | 0x06 => match params with
    | [a4, a3, a2, a1, a0, cy, pg, c] => unitPlace dst src { account := ofBytes5 a4 a3 a2 a1 a0, cycle := cy, page := pg } c s
    | _ => match dst with
      | .direct => .ack s .badParam
      | .group => if s.busy then .silent s else .ack s .badParam
  | 0x07 => match params with
    | [a4, a3, a2, a1, a0, cy, pg] => match dst with
      | .direct => unitLookup src { account := ofBytes5 a4 a3 a2 a1 a0, cycle := cy, page := pg } s
      | .group => unitGroupLookup src { account := ofBytes5 a4 a3 a2 a1 a0, cycle := cy, page := pg } s
    | _ => wrongLength dst s
  | 0x08 => match params with
    | [h1, h0] => unitFetch dst src (ofBytes2 h1 h0) s
    | _ => wrongLength dst s
  | 0x09 => match params with
    | [h1, h0, a4, a3, a2, a1, a0, cy, pg] =>
      unitRekey dst src (ofBytes2 h1 h0) { account := ofBytes5 a4 a3 a2 a1 a0, cycle := cy, page := pg } s
    | _ => wrongLength dst s
  | 0x0A => match params with
    | [h1, h0, c] => unitSetClass dst src (ofBytes2 h1 h0) c s
    | _ => wrongLength dst s
  | 0x0B => match params with
    | [h1, h0] => unitRetire dst src (ofBytes2 h1 h0) s
    | _ => wrongLength dst s
  | 0x0C => match params with
    | [h1, h0] => unitReplace dst src (ofBytes2 h1 h0) s
    | _ => wrongLength dst s
  | 0x0D => match params with
    | [sl, pg] => unitIndexRead dst src sl pg s
    | _ => wrongLength dst s
  | 0x0E => match params with
    | [sl] => unitListing dst src sl s
    | _ => wrongLength dst s
  | 0x0F => match params with
    | [sl] => unitTitleSummary dst src sl s
    | _ => wrongLength dst s
  | 0x10 => match params with
    | [] => unitHalt dst src s
    | _ => wrongLength dst s
  | 0x11 => match params with
    | [] => unitResume dst src s
    | _ => wrongLength dst s
  | 0x12 => match params with
    | [f] => unitCalibrate dst src f s
    | _ => wrongLength dst s
  | 0x13 => match params with
    | [t, i, v1, v0] => unitSetDose dst src t i (ofBytes2 v1 v0) s
    | _ => wrongLength dst s
  | 0x14 => match params with
    | [sl, v] => unitSetTrim dst src sl v s
    | _ => wrongLength dst s
  | 0x15 => match params with
    | [d] => unitSetLamp dst src d s
    | _ => wrongLength dst s
  | _ => match dst with
    | .direct => .ack s .unknown
    | .group => .silent s

/-- How a target addresses this writer, if it does (R172.3). -/
def addressing (node : Node) (target : BitVec 5) : Option Addressing :=
  if target = Config.groupTarget then some .group
  else if target = node.setWidth 5 then some .direct
  else none

/-- The checks of a request portion that has been received whole, in order, and its handing on (R172). -/
def State.acceptPortion (s : State) : State :=
  match s.link.rx.bytes with
  | b0 :: b1 :: rest =>
    if s.link.rx.bits ≠ [] ∨ rest.length ≠ 2 + portionLength b1 then (s.linkFault .badLength).enterSync true
    else if some (crc (b0 :: b1 :: rest).dropLast) ≠ rest.getLast? then (s.linkFault .badCrc).enterSync true
    else
      match addressing s.link.nodeId (portionTarget b0), rest with
      | some dst, code :: more => (serve dst (portionSource b1) code more.dropLast s).deliver dst code
      | _, _ => { s with link := { s.link with iface := .waitMark } }
  | _ => (s.linkFault .badLength).enterSync true

/-- TURN_GAP_END: in REQUEST, the bits since the opening mark fill the receive buffer (R168), and the portion is checked and handed on or
rejected (R172). -/
def execTurnGapEnd (bits : List Bool) (s : State) : Host.Outcome State Fault Refusal :=
  .next (s.whileRunning (fun s =>
    match s.link.iface with
    | .request => ({ s with link := { s.link with rx := bits.foldl RxBuffer.receive s.link.rx } } : State).acceptPortion
    | .off | .sync | .waitMark | .answer | .rollWait => s))

/-! ## The fate of a tail -/

/-- STATUS_BYTE_READ: in ANSWER, a DATA tail reaches its second byte (R176, R191). -/
def execStatusByteRead (s : State) : Host.Outcome State Fault Refusal :=
  .next (s.whileRunning (fun s =>
    match s.link.iface with
    | .answer => s.readStatusByte
    | .off | .sync | .waitMark | .request | .rollWait => s))

/-- The completion of a tail that has not been cut off: it is reported, and the interface enters WAIT_MARK (R173). -/
def State.completeTail (s : State) : State :=
  match s.link.tail with
  | some t =>
    if t.cut then s
    else { s with link := { s.link with iface := .waitMark, tail := none }, answer := none }
  | none => s

/-- TAIL_COMPLETE (R173). The status byte of a DATA tail has been read by then (R176; log entry 8). -/
def execTailComplete (s : State) : Host.Outcome State Fault Refusal :=
  .next (s.whileRunning (fun s =>
    match s.link.iface with
    | .answer => s.readStatusByte.completeTail
    | .off | .sync | .waitMark | .request | .rollWait => s))

/-- TAIL_CUT_OFF (R174). -/
def execTailCutOff (atBit : Nat) (cause : CutCause) (s : State) : Host.Outcome State Fault Refusal :=
  .next (s.whileRunning (fun s =>
    match s.link.iface with
    | .answer => s.takeCutOff atBit cause
    | .off | .sync | .waitMark | .request | .rollWait => s))

/-- ROLL_SLOT_START: a writer in ROLL_WAIT sends its roll byte again from its first bit (R177). -/
def execRollSlotStart (s : State) : Host.Outcome State Fault Refusal :=
  .next (s.whileRunning (fun s =>
    match s.link.iface with
    | .rollWait => { s with link := { s.link with iface := .answer, tail := s.link.tail.map (fun t => { t with nextBit := 0 }) } }
    | .off | .sync | .waitMark | .request | .answer => s))

/-- ROLL_GAP: the roll ends for the waiting writer, whose byte is not sent (R177). -/
def execRollGap (s : State) : Host.Outcome State Fault Refusal :=
  .next (s.whileRunning (fun s =>
    match s.link.iface with
    | .rollWait => { s with link := { s.link with iface := .waitMark, tail := none }, answer := none }
    | .off | .sync | .waitMark | .request | .answer => s))

end Sys2Proof.Machine
end

