-- ==== Sys2Proof/Machine/Plates.lean ====
section
/-! DEFINITION. Plate events and the release deletion (chapter 1): PLATE_LEVEL_CHANGE, PLATE_SETTLE_EXPIRY, PLATE_REMOVAL_REPORT,
RELEASE_DELETION and RELEASE_END. -/

namespace Sys2Proof.Machine

/-- The state with the plate filter of a slot replaced. -/
def State.setPlate (s : State) (sl : Slot) (p : PlateFilter) : State := { s with plates := s.plates.set sl p }

/-- PLATE_LEVEL_CHANGE: a change of the raw level restarts the settle timer (R1). During a hard reset the level alone is followed (R199). -/
def execPlateLevelChange (sl : Slot) (level : Bool) (s : State) : Host.Outcome State Fault Refusal :=
  .next (
    if s.plates[sl].raw = level then s
    else s.setPlate sl { s.plates[sl] with raw := level, settling := s.plates[sl].settling || s.outOfReset })

/-- A plate inserted event (R4). -/
def State.plateInserted (s : State) (sl : Slot) : State :=
  match (s.master sl).state with
  | .empty => s.mapMaster sl (fun m => { m with state := .loaded })
  | .loaded | .opened | .closing | .settled | .indexing | .indexed | .finished | .releasing | .spent | .failed => s

/-- A plate removed event (R5 to R8). A bank that the removal frees is handed to a waiting header (R93). -/
def State.plateRemoved (s : State) (sl : Slot) : State :=
  match (s.master sl).state with
  | .loaded | .spent => s.mapMaster sl (fun m => { m with state := .empty })
  | .opened | .closing | .settled | .indexing | .indexed => (s.removeLivePlate sl).streamGo
  | .finished => (s.enterReleasing sl).streamGo
  | .empty | .releasing | .failed => s

/-- The settle timer of a slot expires (R1). -/
def State.settlePlate (s : State) (sl : Slot) : State :=
  let p := s.plates[sl]
  if p.settling = false then s
  else if p.raw = p.debounced then s.setPlate sl { p with settling := false }
  else
    let s1 := s.setPlate sl { p with debounced := p.raw, settling := false }
    if p.raw then s1.plateInserted sl else s1.plateRemoved sl

/-- PLATE_SETTLE_EXPIRY. -/
def execPlateSettleExpiry (sl : Slot) (s : State) : Host.Outcome State Fault Refusal := .next (s.whileRunning (fun s => s.settlePlate sl))

/-- The oldest removal report taken by the sequencer: it ends the job of its slot, whose master has lost its plate (R119). A report left from an
earlier job of the slot finds another master there, and only leaves the queue (log entry 12). -/
def State.takeRemovalReport (s : State) : State :=
  match s.removalReports with
  | [] => s
  | sl :: rest =>
    let s1 : State := { s with removalReports := rest }
    match s.seq.path, s.seq.job with
    | .preparing, some j | .exposing, some j => if j.slot = sl ∧ s.jobPlateGone j = true then s1.endRemoved j else s1
    | _, _ => s1

/-- PLATE_REMOVAL_REPORT. -/
def execPlateRemovalReport (s : State) : Host.Outcome State Fault Refusal := .next (s.whileRunning State.takeRemovalReport)

/-! ## The release deletion (R18, R19) -/

/-- The next record of the slot at the head of the release queue deleted, in key-table order, unless a listing of the slot runs; with its last
record the deletion ends (R18, R19). -/
def State.deleteNext (s : State) : State :=
  match s.releaseQueue with
  | [] => s
  | sl :: rest =>
    if s.listingRuns sl = true then s
    else
      match s.recordsOf sl with
      | [] => s
      | [r] => (s.dropEntry r.entry).endRelease sl rest
      | r :: _ => s.dropEntry r.entry

/-- The release deletion ended for the slot at the head of the release queue, if it has no record left or one, which is deleted, and no listing
of the slot runs (R18, R19). -/
def State.endDeletion (s : State) : State :=
  match s.releaseQueue with
  | [] => s
  | sl :: rest =>
    if s.listingRuns sl = true then s
    else
      match s.recordsOf sl with
      | [] => s.endRelease sl rest
      | [r] => (s.dropEntry r.entry).endRelease sl rest
      | _ :: _ => s

/-- RELEASE_DELETION (R18; log entry 14). -/
def execReleaseDeletion (s : State) : Host.Outcome State Fault Refusal := .next (s.whileRunning State.deleteNext)

/-- RELEASE_END (R19; log entry 14). -/
def execReleaseEnd (s : State) : Host.Outcome State Fault Refusal := .next (s.whileRunning State.endDeletion)

end Sys2Proof.Machine
end

