-- ==== Sys2Proof/Machine/Stream.lean ====
section
/-! DEFINITION. The events of the raster port (chapter 4). -/

namespace Sys2Proof.Machine

/-- HALF_WORD_IN: a half-word is taken at an edge of STROBE that finds READY high inbound, and READY falls; the half-word becomes the lone half,
or completes a word that joins the FIFO and that the decoder may consume. An edge that finds READY low is ignored (R69, R70, R71). -/
def execHalfWordIn (edge : StrobeEdge) (s : State) : Host.Outcome State Fault Refusal :=
  .next (
    if s.readyAt edge.risen = true ∧ s.raster.direction = .inbound then
      match s.raster.loneHalf with
      | none => { s with raster := { s.raster with strobed := true, loneHalf := some edge.data } }
      | some low =>
        ({ s with raster := { s.raster with strobed := true, loneHalf := none, fifo := s.raster.fifo ++ [edge.data ++ low] } }
          : State).streamGo
    else s)

/-- HEADER_TAKEN: four words in HEADER are taken as a header, which is examined in the same event if a bank is FREE (R71, R72). -/
def execHeaderTaken (s : State) : Host.Outcome State Fault Refusal :=
  .next (s.whileRunning (fun s => if s.raster.decoder = .header then s.streamGo else s))

/-- HEADER_EXAMINATION: the header in WAIT_BANK is examined once a bank is FREE (R72). -/
def execHeaderExamination (s : State) : Host.Outcome State Fault Refusal :=
  .next (s.whileRunning (fun s => if s.raster.decoder = .waitBank then s.examineHeader.consume else s))

/-- What follows a decoder's return to HEADER at the end of a raster: the next header, the take of a job that has joined the queue, and a
direction change or listing that has waited (R71, R72, R85, R86, R107). -/
def State.afterRaster (s : State) : State := s.streamGo.takeJob.turnAndList

/-- FILL_END: the last data word of a fill is moved (R78). -/
def execFillEnd (s : State) : Host.Outcome State Fault Refusal :=
  .next (s.whileRunning (fun s =>
    match s.raster.decoder, s.raster.fifo with
    | .fill f, w :: rest => if f.count + 1 = f.words then (s.finishFill f w rest).afterRaster else s
    | _, _ => s))

/-- DRAIN_COMPLETE: the last data word of a drained raster is consumed (R80). -/
def execDrainComplete (s : State) : Host.Outcome State Fault Refusal :=
  .next (s.whileRunning (fun s =>
    match s.raster.decoder, s.raster.fifo with
    | .drain 1, _ :: rest => ({ s with raster := { s.raster with fifo := rest, decoder := .header } } : State).afterRaster
    | _, _ => s))

/-- DIR_RISE: the outbound direction is asked for, and taken at once at a clean boundary (R85). -/
def execDirRise (s : State) : Host.Outcome State Fault Refusal :=
  let s1 : State := { s with pins := { s.pins with dir := true } }
  .next (s1.whileRunning State.turnAndList)

/-- DIRECTION_OUTBOUND: the effective direction becomes outbound at a clean boundary, and a queued listing begins (R85, R86). -/
def execDirectionOutbound (s : State) : Host.Outcome State Fault Refusal := .next (s.whileRunning State.turnAndList)

/-- DIR_FALL: the effective direction becomes inbound at once, and a listing in progress is abandoned (R85, R89). -/
def execDirFall (s : State) : Host.Outcome State Fault Refusal :=
  let s1 : State := { s with pins := { s.pins with dir := false } }
  .next (s1.whileRunning (fun s =>
    let s2 := s.abandonListing
    { s2 with raster := { s2.raster with direction := .inbound } }))

/-- LISTING_BEGIN: a queued listing begins (R86, R87). -/
def execListingBegin (s : State) : Host.Outcome State Fault Refusal := .next (s.whileRunning State.beginListing)

/-- HALF_WORD_OUT: the offered half-word is taken at an edge of STROBE that finds READY high outbound; READY falls, and rises again with the next
half-word (R88). -/
def execHalfWordOut (s : State) : Host.Outcome State Fault Refusal :=
  .next (
    if s.ready = true ∧ s.raster.direction = .outbound then
      match s.raster.fifo with
      | _ :: rest =>
        if s.raster.lowSent then ({ s with raster := { s.raster with strobed := true } } : State).nextWordOut rest
        else { s with raster := { s.raster with strobed := true, lowSent := true } }
      | [] => s
    else s)

/-- FLUSH_FALL: READY is released to follow the FIFO inbound, or to offer the next half-word outbound (R84); READY reads the pin. -/
def execFlushFall (s : State) : Host.Outcome State Fault Refusal := .next { s with pins := { s.pins with flush := false } }

end Sys2Proof.Machine
end

