-- ==== Sys2Proof/Machine/Supervision.lean ====
section
/-! DEFINITION. ATTENTION, FLUSH and the hard reset (chapter 11; R83, R118, R120, R125). -/

namespace Sys2Proof.Machine

/-! ## The hard reset (R198, R199) -/

/-- The plate levels as the filters hold them. -/
def State.rawPlates (s : State) : Vector Bool 6 := s.plates.map (·.raw)

/-- A hard reset begins: every block is held in reset, with its reset values over the levels last told (R198; log entry 17). -/
def State.beginReset (s : State) (phase : ResetPhase) (pins : Pins) : State := s.hardReset phase pins s.rawPlates false

/-- The plate levels of a sample: bit k is PLATEk. -/
def sampledPlates (plates : BitVec 6) : Vector Bool 6 :=
  #v[plates.getLsbD 0, plates.getLsbD 1, plates.getLsbD 2, plates.getLsbD 3, plates.getLsbD 4, plates.getLsbD 5]

/-- HARD_RESET_BEGIN: ATTENTION and FLUSH stand high together. During a reset it tells the levels alone (R198). -/
def execHardResetBegin (s : State) : Host.Outcome State Fault Refusal :=
  let pins : Pins := { s.pins with attention := true, flush := true }
  .next (
    match s.sup.phase with
    | .running => s.beginReset .heldByLines pins
    | .heldByLines | .powerUp => { s with pins := pins })

/-- POWER_UP: a power-up reset begins (R198). -/
def execPowerUp (s : State) : Host.Outcome State Fault Refusal := .next (s.beginReset .powerUp s.pins)

/-- HARD_RESET_END: a reset held by the two lines ends when both are low; a power-up reset ends unless both are high, and then lasts until both
are low. Every block takes its reset values over the levels sampled, and the close-gap count starts at the reset's end if LINK is recessive
then (R182, R198, R199). -/
def execHardResetEnd (link : LinkPins) (plates : BitVec 6) (dir attention flush : Bool) (s : State) :
    Host.Outcome State Fault Refusal :=
  let pins : Pins := { strap := link.strap, dir := dir, attention := attention, flush := flush }
  .next (
    match s.sup.phase with
    | .running => s
    | .heldByLines =>
      if attention = false ∧ flush = false then s.hardReset .running pins (sampledPlates plates) link.recessive
      else s.hardReset .heldByLines pins (sampledPlates plates) link.recessive
    | .powerUp =>
      if attention = true ∧ flush = true then s.hardReset .heldByLines pins (sampledPlates plates) link.recessive
      else s.hardReset .running pins (sampledPlates plates) link.recessive)

/-! ## ATTENTION and FLUSH -/

/-- ATTENTION on the exposure path, FLUSH being low (R118, R119, R120, R125). -/
def State.attentionPath (s : State) (openMs : Nat) : State :=
  match s.seq.path, s.seq.job with
  | .idle, _ => { s with seq := { s.seq with path := .halted } }
  | .preparing, some j => if s.jobPlateGone j = true then s.endRemoved j else s.endPreparing j .halted .none
  | .exposing, some j =>
    if s.jobPlateGone j = true then s.endRemoved j else s.endShort j openMs .halted .none .halted .none
  | _, _ => s

/-- ATTENTION rises: with FLUSH high a hard reset begins, with FLUSH low the exposure path is stopped (R125, R198). -/
def execAttention (openMs : OpenMs) (s : State) : Host.Outcome State Fault Refusal :=
  let s1 : State := { s with pins := { s.pins with attention := true } }
  .next (s1.whileRunning (fun s =>
    if s.pins.flush then s.beginReset .heldByLines s.pins else s.attentionPath openMs.val))

/-- FLUSH rises: with ATTENTION high a hard reset begins and the flush does not act; with ATTENTION low the port is flushed, which may let a
direction change and a listing begin (R83, R84, R85, R198). -/
def execFlush (attention : Bool) (s : State) : Host.Outcome State Fault Refusal :=
  let s1 : State := { s with pins := { s.pins with attention := attention, flush := true } }
  .next (s1.whileRunning (fun s =>
    if attention then s.beginReset .heldByLines s.pins else s.flushPort.turnAndList))

end Sys2Proof.Machine
end

