-- ==== Sys2Proof/Machine/Dispatch.lean ====
section
/-! DEFINITION. Every command with its meaning, one arm per row of the table of operations and events. -/

namespace Sys2Proof.Machine

/-- The effect of a command on everything but the queue. -/
def exec (i : Instr) (s : State) : Host.Outcome State Fault Refusal :=
  match i with
  | .plateLevelChange slot level => Sys2Proof.Machine.execPlateLevelChange slot level s
  | .plateSettleExpiry slot => Sys2Proof.Machine.execPlateSettleExpiry slot s
  | .plateRemovalReport => Sys2Proof.Machine.execPlateRemovalReport s
  | .status dst src clear => Sys2Proof.Machine.execStatus dst src clear s
  | .masterOpen dst src slot format label low high => Sys2Proof.Machine.execMasterOpen dst src slot format label low high s
  | .masterClose dst src slot => Sys2Proof.Machine.execMasterClose dst src slot s
  | .masterState dst src slot => Sys2Proof.Machine.execMasterState dst src slot s
  | .masterRelease dst src slot => Sys2Proof.Machine.execMasterRelease dst src slot s
  | .place dst src key cls => Sys2Proof.Machine.execPlace dst src key cls s
  | .lookup src key => Sys2Proof.Machine.execLookup src key s
  | .groupLookup src key => Sys2Proof.Machine.execGroupLookup src key s
  | .fetch dst src handle => Sys2Proof.Machine.execFetch dst src handle s
  | .rekey dst src handle key => Sys2Proof.Machine.execRekey dst src handle key s
  | .setClass dst src handle cls => Sys2Proof.Machine.execSetClass dst src handle cls s
  | .retire dst src handle => Sys2Proof.Machine.execRetire dst src handle s
  | .replace dst src handle => Sys2Proof.Machine.execReplace dst src handle s
  | .indexRead dst src slot page => Sys2Proof.Machine.execIndexRead dst src slot page s
  | .listing dst src slot => Sys2Proof.Machine.execListing dst src slot s
  | .titleSummary dst src slot => Sys2Proof.Machine.execTitleSummary dst src slot s
  | .halt dst src => Sys2Proof.Machine.execHalt dst src s
  | .resume dst src => Sys2Proof.Machine.execResume dst src s
  | .calibrate dst src flag => Sys2Proof.Machine.execCalibrate dst src flag s
  | .setDose dst src table index value => Sys2Proof.Machine.execSetDose dst src table index value s
  | .setTrim dst src slot value => Sys2Proof.Machine.execSetTrim dst src slot value s
  | .setLamp dst src duty => Sys2Proof.Machine.execSetLamp dst src duty s
  | .openingMark => Sys2Proof.Machine.execOpeningMark s
  | .turnGapEnd bits => Sys2Proof.Machine.execTurnGapEnd bits s
  | .invalidSymbol => Sys2Proof.Machine.execInvalidSymbol s
  | .breakPulse => Sys2Proof.Machine.execBreak s
  | .closeGap => Sys2Proof.Machine.execCloseGap s
  | .tailComplete => Sys2Proof.Machine.execTailComplete s
  | .tailCutOff bit cause => Sys2Proof.Machine.execTailCutOff bit cause s
  | .statusByteRead => Sys2Proof.Machine.execStatusByteRead s
  | .rollSlotStart => Sys2Proof.Machine.execRollSlotStart s
  | .rollGap => Sys2Proof.Machine.execRollGap s
  | .halfWordIn edge => Sys2Proof.Machine.execHalfWordIn edge s
  | .headerTaken => Sys2Proof.Machine.execHeaderTaken s
  | .headerExamination => Sys2Proof.Machine.execHeaderExamination s
  | .fillEnd => Sys2Proof.Machine.execFillEnd s
  | .drainComplete => Sys2Proof.Machine.execDrainComplete s
  | .flush attention => Sys2Proof.Machine.execFlush attention s
  | .dirRise => Sys2Proof.Machine.execDirRise s
  | .directionOutbound => Sys2Proof.Machine.execDirectionOutbound s
  | .dirFall => Sys2Proof.Machine.execDirFall s
  | .listingBegin => Sys2Proof.Machine.execListingBegin s
  | .halfWordOut => Sys2Proof.Machine.execHalfWordOut s
  | .jobTake => Sys2Proof.Machine.execJobTake s
  | .pnlShow => Sys2Proof.Machine.execPnlShow s
  | .panelReady => Sys2Proof.Machine.execPanelReady s
  | .motGo => Sys2Proof.Machine.execMotGo s
  | .inPosition => Sys2Proof.Machine.execInPosition s
  | .motionFault => Sys2Proof.Machine.execMotionFault s
  | .moveTimerExpiry => Sys2Proof.Machine.execMoveTimerExpiry s
  | .panelTimeout => Sys2Proof.Machine.execPanelTimeout s
  | .shutterOpen => Sys2Proof.Machine.execShutterOpen s
  | .photoPulse openMs => Sys2Proof.Machine.execPhotoPulse openMs s
  | .countReachesT openMs => Sys2Proof.Machine.execCountReachesT openMs s
  | .limitExpiry => Sys2Proof.Machine.execLimitExpiry s
  | .lampDarkExpiry => Sys2Proof.Machine.execLampDarkExpiry s
  | .gateEnd => Sys2Proof.Machine.execGateEnd s
  | .attention openMs => Sys2Proof.Machine.execAttention openMs s
  | .releaseDeletion => Sys2Proof.Machine.execReleaseDeletion s
  | .releaseEnd => Sys2Proof.Machine.execReleaseEnd s
  | .hardResetBegin => Sys2Proof.Machine.execHardResetBegin s
  | .powerUp => Sys2Proof.Machine.execPowerUp s
  | .hardResetEnd link plates dir attention flush => Sys2Proof.Machine.execHardResetEnd link plates dir attention flush s
  | .requestTooLong => Sys2Proof.Machine.execRequestTooLong s
  | .syncCountRestart => Sys2Proof.Machine.execSyncCountRestart s
  | .flushFall => Sys2Proof.Machine.execFlushFall s
  | .pwmPeriodStart => Sys2Proof.Machine.execPwmPeriodStart s

end Sys2Proof.Machine
end

