-- ==== Sys2Proof/Safety.lean ====
section
/-! DEFINITION. What the manual says holds of the part at every moment: one predicate on states for each block, and one for the agreement of
directory, cell maps, banks and job; and the words in which Certificates/Slice0/Obligations.lean says what the commands do. -/

namespace Sys2Proof.Machine

/-! ## The panel memories (R91) -/

/-- Both bank memories have the form every memory keeps. -/
def State.memoryConsistent (s : State) : Prop := Memory.wf s.panel.bankA.words ∧ Memory.wf s.panel.bankB.words

/-! ## The directory (R24, R28) -/

/-- The entries of the records, in key-table order. -/
def Directory.occupied (d : Directory) : List Entry := d.keyTable.map (·.entry)

/-- Every entry is either on the free list or in the key table, once; and the key table is in the order of keys. -/
def Directory.consistent (d : Directory) : Prop :=
  d.freeList.Nodup ∧ d.occupied.Nodup ∧ (∀ e, e ∈ d.freeList ↔ e ∉ d.occupied) ∧
    d.keyTable.Pairwise (fun p q => keyOrder p.key ≤ keyOrder q.key)

/-! ## The Master Table (R2, R3, R17) -/

/-- The states in which the master fields are present (R2, R3). -/
def MasterState.hasFields : MasterState → Bool
  | .opened | .closing | .settled | .indexing | .indexed | .finished | .releasing | .failed => true
  | .empty | .loaded | .spent => false

/-- Whether a state goes with a plate that is present or absent (the Plate column of R3). -/
def MasterState.fitsPlate (present : Bool) : MasterState → Bool
  | .empty => !present
  | .loaded | .opened | .closing | .settled | .indexing | .indexed | .finished | .spent => present
  | .releasing | .failed => true

/-- The record of one slot: fields, map size, failure reason, plate and release queue go with the state. -/
def State.masterConsistent (s : State) (sl : Slot) : Prop :=
  (s.master sl).fields.isSome = (s.master sl).state.hasFields ∧
  (∀ f ∈ (s.master sl).fields, f.cells.length = f.format.cellCount) ∧
  ((s.master sl).state = .failed → (s.master sl).failure.isSome = true) ∧
  ((s.master sl).failure.isSome = true → (s.master sl).state = .failed ∨ (s.master sl).state = .releasing) ∧
  (s.master sl).state.fitsPlate (s.platePresent sl) = true ∧
  ((s.master sl).state = .releasing ↔ sl ∈ s.releaseQueue)

/-- Every slot's record is consistent, and the release queue holds no slot twice. -/
def State.mastersConsistent (s : State) : Prop := s.releaseQueue.Nodup ∧ ∀ sl, s.masterConsistent sl

/-! ## The Panel Store (R91, R92, R95, R105) -/

/-- The bank a fill fills. -/
def Decoder.fillBank : Decoder → Option BankId
  | .fill f => some f.bank
  | .header | .waitBank | .drain _ | .discard | .listing => none

/-- One bank: its binding, the queue, the decoder and the job go with its state. -/
def State.bankConsistent (s : State) (id : BankId) : Prop :=
  (id ∈ s.panel.queue ↔ (s.bank id).state = .loaded) ∧
  ((s.bank id).state = .free → (s.bank id).binding = none) ∧
  ((s.bank id).state = .loaded ∨ (s.bank id).state = .shown → (s.bank id).binding.isSome = true) ∧
  ((s.bank id).state = .filling ↔ s.raster.decoder.fillBank = some id) ∧
  ((s.bank id).state = .shown ↔ s.seq.job.map (·.bank) = some id)

/-- The Panel Store as a whole; a job stands exactly in PREPARING and EXPOSING. -/
def State.panelConsistent (s : State) : Prop :=
  s.panel.queue.Nodup ∧ s.bankConsistent .a ∧ s.bankConsistent .b ∧
    (s.seq.job.isSome = true ↔ s.seq.path = .preparing ∨ s.seq.path = .exposing)

/-! ## The raster port (R70 to R72, R77, R85 to R89) -/

/-- What the FIFO holds in each decoder state, when every word that can be consumed has been (log entry 5). -/
def RasterPort.decoderFits (r : RasterPort) (noBankFree : Bool) : Prop :=
  match r.decoder with
  | .header => r.fifo.length < 4
  | .waitBank => 4 ≤ r.fifo.length ∧ noBankFree = true
  | .fill f => f.count < f.words ∧ (r.fifo ≠ [] → f.count + 1 = f.words)
  | .drain left => 1 ≤ left ∧ (r.fifo ≠ [] → left = 1)
  | .discard => r.fifo = []
  | .listing => r.fifo ≠ [] ∧ r.direction = .outbound

/-- The listing place, its buffer and the half sent go with the decoder. -/
def RasterPort.listingFits (r : RasterPort) : Prop :=
  match r.place with
  | .inProgress sl => r.decoder = .listing ∧ r.buffer.map (·.slot) = some sl
  | .empty | .queued _ => r.decoder ≠ .listing ∧ r.buffer = none ∧ r.lowSent = false

/-- The port as a whole: the FIFO's capacity, and nothing half done while the direction is outbound. -/
def State.portConsistent (s : State) : Prop :=
  s.raster.fifo.length ≤ Config.fifoWords ∧ s.raster.decoderFits (s.freeBankId? = none) ∧ s.raster.listingFits ∧
    (s.raster.direction = .outbound →
      s.raster.loneHalf = none ∧ (s.raster.decoder = .listing ∨ s.raster.decoder = .header ∧ s.raster.fifo = []))

/-! ## The exposure path (R105, R106, R109, R112, R129, R143) -/

/-- The figures of a job in their ranges (R105). -/
def Job.figuresFit (j : Job) : Prop :=
  16 ≤ j.target ∧ j.target ≤ 520192 ∧ 20 ≤ j.limitMs ∧ j.limitMs ≤ 4000 ∧ j.fogLimit = j.target / 64

/-- The job goes with the path state: in PREPARING at least one report is missing unless a gate runs, and in EXPOSING both are in. -/
def State.jobFits (s : State) : Prop :=
  match s.seq.job with
  | none => ¬ (s.seq.path = .preparing ∨ s.seq.path = .exposing)
  | some j =>
    j.figuresFit ∧
    match s.seq.path with
    | .preparing => j.arrived = true → j.panelReady = true → s.dose.gateRuns = true
    | .exposing => j.arrived = true ∧ j.panelReady = true ∧ s.dose.count < j.target
    | .idle | .halted | .faulted => False

/-- The job waits for its panel. -/
def State.awaitsPanel (s : State) : Prop := s.seq.path = .preparing ∧ s.seq.job.map (·.panelReady) = some false

/-- The job waits for its move. -/
def State.awaitsMove (s : State) : Prop := s.seq.path = .preparing ∧ s.seq.job.map (·.arrived) = some false

/-- The timers and flags of the sequencer, the panel interface and the dose unit run exactly when their rules say. -/
def State.pathConsistent (s : State) : Prop :=
  s.jobFits ∧
  (s.seq.haltPending = true → s.seq.path = .preparing ∨ s.seq.path = .exposing) ∧
  (s.seq.fault ≠ .none ↔ s.seq.path = .faulted) ∧
  (s.seq.panelTimer = true ↔ s.awaitsPanel) ∧
  (s.panel.awaiting = true ∨ s.panel.strobing = true ↔ s.awaitsPanel) ∧
  ¬ (s.panel.awaiting = true ∧ s.panel.strobing = true) ∧
  (s.dose.counter = .integrating ↔ s.seq.path = .exposing) ∧
  (s.dose.counter = .gating ↔ s.dose.gateRuns = true) ∧
  (s.dose.limitTimer = true ↔ s.seq.path = .exposing) ∧
  (s.dose.openTimer = true ↔ s.seq.path = .exposing) ∧
  (s.dose.gateTimer = true ↔ s.dose.gateRuns = true) ∧
  (s.dose.darkWindow = .stopped ↔ s.seq.path ≠ .exposing) ∧
  (s.dose.darkWindow = .running → s.dose.count = 0) ∧
  (s.dose.darkWindow = .spent → 1 ≤ s.dose.count) ∧
  (s.dose.calibration = .pending true ∨ s.dose.calibration = .pending false → s.seq.path = .exposing) ∧
  (s.dose.heldDuty.isSome = true → s.seq.path = .exposing ∨ s.dose.gateRuns = true)

/-! ## The motion port (R63 to R68) -/

/-- The port's own items go with its state (R63). -/
def MotionPort.consistent (m : MotionPort) : Prop :=
  (m.target.isSome = true ↔ m.port ≠ .idle) ∧
  (m.moveTimer = true ↔ m.port = .moving ∨ m.port = .draining) ∧
  (m.message.isSome = true ↔ m.port = .sending) ∧
  (m.abandoned = true → m.port = .sending) ∧
  (m.pendingMove.isSome = true → m.port = .draining ∨ m.abandoned = true)

/-- A move is on its way for the sequencer's present job: being made or sent and not abandoned, or pending. -/
def MotionPort.serves (m : MotionPort) : Prop :=
  m.port = .moving ∨ (m.port = .sending ∧ m.abandoned = false) ∨ m.pendingMove.isSome = true

/-- The port is consistent, and serves a move exactly while the job waits for one. -/
def State.motionConsistent (s : State) : Prop := s.motion.consistent ∧ (s.motion.serves ↔ s.awaitsMove)

/-! ## The cell link (R164, R174, R177, R181, R185) -/

/-- The items of the Link Interface and the pending answer go with the interface state. -/
def State.linkConsistent (s : State) : Prop :=
  (s.link.nodeId = 0 ↔ s.link.iface = .off) ∧
  (s.link.tail.isSome = true ↔ s.link.iface = .answer ∨ s.link.iface = .rollWait) ∧
  (s.answer.isSome = true → s.link.iface = .answer) ∧
  (∀ t ∈ s.link.tail, t.cut = true → s.link.iface = .answer) ∧
  (s.link.iface = .rollWait → ∃ t ∈ s.link.tail, ∃ b, t.bytes = .roll b) ∧
  (s.link.gapCount = true → s.link.iface = .sync)

/-! ## The values after a reset (R20, R51, R63, R90, R99, R104, R128, R129, R142, R164, R185) -/

/-- Every block but Supervision stands at its reset values, for the levels sampled: the strap, DIR, and the plate of each slot. -/
def State.atResetValues (s : State) (strap : Node) (dir : Bool) (plate : Slot → Bool) : Prop :=
  (∀ sl : Slot, s.plates[sl] = { raw := plate sl, debounced := plate sl, settling := false }) ∧
  (∀ sl : Slot, s.master sl = { state := if plate sl then .spent else .empty, fields := none, generation := 0, failure := none }) ∧
  s.releaseQueue = [] ∧ s.removalReports = [] ∧
  (∀ e : Entry, s.dir.stamps[e] = 0) ∧ s.dir.freeList = List.finRange 1024 ∧ s.dir.keyTable = [] ∧
  s.raster = { fifo := [], loneHalf := none, decoder := .header, direction := if dir then .outbound else .inbound, place := .empty,
               buffer := none, lowSent := false, strobed := false, faultReason := .none, faultHandle := 0 } ∧
  (∀ id, (s.bank id).state = .free ∧ (s.bank id).binding = none) ∧
  s.panel.queue = [] ∧ s.panel.selected = none ∧ s.panel.awaiting = false ∧ s.panel.strobing = false ∧
  s.panel.showRisen = false ∧
  s.seq = { path := .idle, haltPending := false, fault := .none, job := none, panelTimer := false } ∧
  s.motion = { port := .idle, target := none, pendingMove := none, abandoned := false, turret := none, moveTimer := false,
               message := none, goRisen := false } ∧
  s.dose.base.toList = [9000, 12000, 7500] ∧ s.dose.classes.toList = [48, 52, 56, 60, 64, 72, 80, 96] ∧
  (∀ sl : Slot, s.dose.trims[sl] = 128) ∧ s.dose.duty = 0 ∧ s.dose.heldDuty = none ∧ s.dose.rate = 0 ∧ s.dose.reference = 0 ∧
  s.dose.counter = .idle ∧ s.dose.count = 0 ∧ s.dose.limitTimer = false ∧ s.dose.darkWindow = .stopped ∧ s.dose.openTimer = false ∧
  s.dose.calibration = .none ∧ s.dose.gateTimer = false ∧ s.dose.pwmHigh = 0 ∧
  s.link.nodeId = strap ∧ s.link.iface = (if strap = 0 then .off else .sync) ∧ s.link.rx = { bytes := [], bits := [] } ∧
  s.link.tail = none ∧ s.link.fault = .none ∧ s.answer = none

/-! ## The words of the claims about requests -/

/-- A request can be taken: the part is out of reset, and its Link Interface stands at the end of a turn gap (R172). -/
def State.takesRequest (s : State) : Prop := s.sup.phase = .running ∧ s.link.iface = .request

/-- A request taken that gets no tail: WAIT_MARK, and no pending answer (R172, R185). -/
def State.unanswered (s : State) : State :=
  { s with link := { s.link with iface := .waitMark, tail := none }, answer := none }

/-- A direct request answered with an ACK tail: ANSWER, with the head byte of this node and the result (R172, R175, R185). -/
def State.ackTail (s : State) (code : Byte) (r : Result) : State :=
  { s with link := { s.link with iface := .answer, tail := some { bytes := .ack (s.link.nodeId ++ r.code), nextBit := 0, cut := false } },
           answer := some { dst := .direct, code := code, result := some r, created := none, clearing := false } }

/-- A direct request answered with a DATA tail carrying OK: the status byte is still to be read (R172, R176, R185). -/
def State.dataTail (s : State) (code : Byte) (payload : List Byte) : State :=
  { s with link := { s.link with iface := .answer,
                                 tail := some { bytes := .data (s.link.nodeId ++ Result.ok.code) none payload, nextBit := 0, cut := false } },
           answer := some { dst := .direct, code := code, result := some .ok, created := none, clearing := false } }

/-- A PLACE answered with a DATA tail: the pending answer holds how it was addressed and the record it created (R176, R185). -/
def State.placeTail (s : State) (dst : Addressing) (r : Result) (payload : List Byte) (created : Option Handle) : State :=
  { s with link := { s.link with iface := .answer,
                                 tail := some { bytes := .data (s.link.nodeId ++ r.code) none payload, nextBit := 0, cut := false } },
           answer := some { dst := dst, code := 0x06, result := some r, created := created, clearing := false } }

/-- A PLACE refused with an ACK tail; a group PLACE contends for the line with it (R172, R175, R185). -/
def State.placeRefused (s : State) (dst : Addressing) (r : Result) : State :=
  { s with link := { s.link with iface := .answer, tail := some { bytes := .ack (s.link.nodeId ++ r.code), nextBit := 0, cut := false } },
           answer := some { dst := dst, code := 0x06, result := some r, created := none, clearing := false } }

/-- A group request answered with a roll byte (R172, R177, R185). -/
def State.rollTail (s : State) (code : Byte) (roll : BitVec 4) : State :=
  { s with link := { s.link with iface := .answer, tail := some { bytes := .roll (s.link.nodeId ++ roll), nextBit := 0, cut := false } },
           answer := some { dst := .group, code := code, result := none, created := none, clearing := false } }

/-- A request of R184 as it travels: how it is addressed, its source, its code and its parameter bytes in the layouts of R193. -/
def requestParts : Instr → Option (Addressing × Node × Byte × List Byte)
  | .status dst src clear => some (dst, src, 0x01, [clear])
  | .masterOpen dst src slot format label low high =>
    some (dst, src, 0x02, [slot, format] ++ bytes2 label ++ bytes5 low ++ bytes5 high)
  | .masterClose dst src slot => some (dst, src, 0x03, [slot])
  | .masterState dst src slot => some (dst, src, 0x04, [slot])
  | .masterRelease dst src slot => some (dst, src, 0x05, [slot])
  | .place dst src key cls => some (dst, src, 0x06, keyBytes key ++ [cls])
  | .lookup src key => some (.direct, src, 0x07, keyBytes key)
  | .groupLookup src key => some (.group, src, 0x07, keyBytes key)
  | .fetch dst src handle => some (dst, src, 0x08, bytes2 handle)
  | .rekey dst src handle key => some (dst, src, 0x09, bytes2 handle ++ keyBytes key)
  | .setClass dst src handle cls => some (dst, src, 0x0A, bytes2 handle ++ [cls])
  | .retire dst src handle => some (dst, src, 0x0B, bytes2 handle)
  | .replace dst src handle => some (dst, src, 0x0C, bytes2 handle)
  | .indexRead dst src slot page => some (dst, src, 0x0D, [slot, page])
  | .listing dst src slot => some (dst, src, 0x0E, [slot])
  | .titleSummary dst src slot => some (dst, src, 0x0F, [slot])
  | .halt dst src => some (dst, src, 0x10, [])
  | .resume dst src => some (dst, src, 0x11, [])
  | .calibrate dst src flag => some (dst, src, 0x12, [flag])
  | .setDose dst src table index value => some (dst, src, 0x13, [table, index] ++ bytes2 value)
  | .setTrim dst src slot value => some (dst, src, 0x14, [slot, value])
  | .setLamp dst src duty => some (dst, src, 0x15, [duty])
  | .plateLevelChange _ _ | .plateSettleExpiry _ | .plateRemovalReport | .openingMark | .turnGapEnd _ | .invalidSymbol | .breakPulse
  | .closeGap | .tailComplete | .tailCutOff _ _ | .statusByteRead | .rollSlotStart | .rollGap | .halfWordIn _ | .headerTaken
  | .headerExamination | .fillEnd | .drainComplete | .flush _ | .dirRise | .directionOutbound | .dirFall | .listingBegin | .halfWordOut
  | .jobTake | .pnlShow | .panelReady | .motGo | .inPosition | .motionFault | .moveTimerExpiry | .panelTimeout | .shutterOpen
  | .photoPulse _ | .countReachesT _ | .limitExpiry | .lampDarkExpiry | .gateEnd | .attention _ | .releaseDeletion | .releaseEnd
  | .hardResetBegin | .powerUp | .hardResetEnd _ _ _ _ _ | .requestTooLong | .syncCountRestart | .flushFall | .pwmPeriodStart => none

/-- The bytes of a request portion: priority and target, source and length, code, parameters, CRC (R169, R192). -/
def portionBytes (priority : BitVec 3) (target : BitVec 5) (src : Node) (code : Byte) (params : List Byte) : List Byte :=
  let body := (priority ++ target) :: (src ++ BitVec.ofNat 4 params.length) :: code :: params
  body ++ [crc body]

/-- The target that an addressing names to the node (R169). -/
def targetOf (node : Node) : Addressing → BitVec 5
  | .direct => node.setWidth 5
  | .group => 31

/-! ## What follows in the same event

The manual lets some effects follow in the event that completes their conditions (log entry 4). A claim names the state `t` in which the event's
own effects stand and the state `t'` after what follows; each `then…` below says that `t'` is what the effect's own command makes of `t`, and that
it is `t` where the effect has no occasion. -/

/-- Every word of the FIFO that can be consumed has been, or a header waits for a bank (log entry 5). Every state that a run reaches is so
(`StepKeepsThePort`). -/
def State.streamFits (s : State) : Prop := s.raster.decoder = .waitBank ∨ s.raster.decoderFits false

/-- A header that waits for a bank is examined if the event has freed one (R72, R93). -/
def State.thenExamines (t t' : State) : Prop := exec .headerExamination t = .next t' ∧ (t.raster.decoder ≠ .waitBank → t' = t)

/-- In HEADER with four words in the FIFO, a header is taken, and examined if a bank is FREE (R71, R72). -/
def State.thenTakesHeader (t t' : State) : Prop := exec .headerTaken t = .next t' ∧ (t.raster.fifo.length < 4 → t' = t)

/-- A job is taken if the path is IDLE, no calibration stands and the loaded-job queue holds an entry (R107). -/
def State.thenTakes (t t' : State) : Prop :=
  exec .jobTake t = .next t' ∧ (t.seq.path ≠ .idle ∨ t.dose.calibration ≠ .none ∨ t.panel.queue = [] → t' = t)

/-- A queued listing begins if the direction is outbound and the decoder in HEADER (R86). -/
def State.thenLists (t t' : State) : Prop :=
  exec .listingBegin t = .next t' ∧
    ((∀ sl, t.raster.place ≠ .queued sl) ∨ t.raster.direction = .inbound ∨ t.raster.decoder ≠ .header → t' = t)

/-- The direction becomes outbound at a clean boundary if DIR is high, and a queued listing begins (R85, R86). -/
def State.thenTurns (t t' : State) : Prop :=
  exec .directionOutbound t = .next t' ∧
    (t.raster.decoder ≠ .header ∨
      t.raster.direction = .inbound ∧ (t.pins.dir = false ∨ t.raster.fifo ≠ [] ∨ t.raster.loneHalf ≠ none) → t' = t)

/-- What follows a decoder's return to HEADER: the next header, the take of a job, and a direction change or listing (R71, R107, R85, R86). -/
def State.thenGoesOn (t t' : State) : Prop := ∃ u v, t.thenTakesHeader u ∧ u.thenTakes v ∧ v.thenTurns t'

/-! ## The words of the claims about records, masters and banks -/

/-- The authority that a request's source needs (R30, R186). -/
def State.authorises (s : State) : Instr → Bool
  | .masterOpen _ src _ _ _ _ _ | .masterClose _ src _ | .masterRelease _ src _ | .halt _ src | .resume _ src | .calibrate _ src _
  | .setDose _ src _ _ _ | .setTrim _ src _ _ | .setLamp _ src _ => decide (src = 0)
  | .status _ src clear => decide (clear ≠ 1 ∨ src = 0)
  | .rekey _ src h _ | .setClass _ src h _ | .retire _ src h | .replace _ src h =>
    decide (∀ r ∈ s.resolve h, src = 0 ∨ src = r.source)
  | .masterState _ _ _ | .place _ _ _ _ | .lookup _ _ | .groupLookup _ _ | .fetch _ _ _ | .indexRead _ _ _ _ | .listing _ _ _
  | .titleSummary _ _ _ | .plateLevelChange _ _ | .plateSettleExpiry _ | .plateRemovalReport | .openingMark | .turnGapEnd _
  | .invalidSymbol | .breakPulse | .closeGap | .tailComplete | .tailCutOff _ _ | .statusByteRead | .rollSlotStart | .rollGap
  | .halfWordIn _ | .headerTaken | .headerExamination | .fillEnd | .drainComplete | .flush _ | .dirRise | .directionOutbound
  | .dirFall | .listingBegin | .halfWordOut | .jobTake | .pnlShow | .panelReady | .motGo | .inPosition | .motionFault
  | .moveTimerExpiry | .panelTimeout | .shutterOpen | .photoPulse _ | .countReachesT _ | .limitExpiry | .lampDarkExpiry | .gateEnd
  | .attention _ | .releaseDeletion | .releaseEnd | .hardResetBegin | .powerUp | .hardResetEnd _ _ _ _ _ | .requestTooLong
  | .syncCountRestart | .flushFall | .pwmPeriodStart => true

/-- A record filed in the key table at the place of its key, last among equal keys (R28). -/
def filedAt (r : Record) (table : List Record) : List Record :=
  table.takeWhile (fun x => decide (keyOrder x.key ≤ keyOrder r.key)) ++ r :: table.dropWhile (fun x => decide (keyOrder x.key ≤ keyOrder r.key))

/-- The key table with the record of an entry changed in place. -/
def changedAt (e : Entry) (f : Record → Record) (table : List Record) : List Record := table.map (fun x => if x.entry = e then f x else x)

/-- The directory with the record of an entry changed in place. -/
def State.dirWith (s : State) (e : Entry) (f : Record → Record) : Directory := { s.dir with keyTable := changedAt e f s.dir.keyTable }

/-- Every record of the master of a slot, but the record of an entry, is EXPOSED or WITHDRAWN (R12). -/
def State.othersSettled (s : State) (sl : Slot) (e : Entry) : Bool :=
  decide (∀ x ∈ s.dir.keyTable, x.slot = sl → x.entry ≠ e → x.state = .exposed ∨ x.state = .withdrawn)

/-- A master in the event that changes one of its records: the generation advances, the cell map changes unless it is frozen, and a CLOSING
master settles if it now meets the settled condition (R12, R55, R149). -/
def Master.afterChange (m : Master) (cells : List CellState → List CellState) (settles : Bool) : Master :=
  { state := if m.state = .closing ∧ settles = true then .settled else m.state, generation := m.generation + 1, failure := m.failure,
    fields := if m.state = .failed ∨ m.state = .releasing then m.fields else m.fields.map (fun f => { f with cells := cells f.cells }) }

/-- A record deleted outside a release deletion: its entry joins the tail of the free list with its stamp advanced, and its master changes
(R26). -/
def State.afterDeletion (s : State) (r : Record) (cells : List CellState → List CellState) : State :=
  { s with
    dir := { stamps := s.dir.stamps.set r.entry (s.dir.stamps[r.entry] + 1), freeList := s.dir.freeList ++ [r.entry],
             keyTable := s.dir.keyTable.filter (fun x => decide (x.entry ≠ r.entry)) }
    masters := s.masters.set r.slot ((s.master r.slot).afterChange cells (s.othersSettled r.slot r.entry)) }

/-- The one OPEN master whose range covers an account is that of a slot, with these fields (R31). -/
def State.coveredOnlyBy (s : State) (a : Account) (sl : Slot) (f : MasterFields) : Prop :=
  (s.master sl).state = .opened ∧ (s.master sl).fields = some f ∧ f.accountLow.toNat ≤ a.toNat ∧ a.toNat ≤ f.accountHigh.toNat ∧
  ∀ o, (s.master o).state = .opened → (∃ g ∈ (s.master o).fields, g.accountLow.toNat ≤ a.toNat ∧ a.toNat ≤ g.accountHigh.toNat) → o = sl

/-- No OPEN master covers an account. -/
def State.coveredByNone (s : State) (a : Account) : Prop :=
  ∀ o, (s.master o).state = .opened → ∀ g ∈ (s.master o).fields, ¬ (g.accountLow.toNat ≤ a.toNat ∧ a.toNat ≤ g.accountHigh.toNat)

/-- A cell is the lowest-numbered FREE cell of a map (R56). -/
def MasterFields.firstFree (f : MasterFields) (cell : Nat) : Prop :=
  f.cells[cell]? = some .free ∧ ∀ n, n < cell → f.cells[n]? ≠ some .free

/-- A bank let go: a LOADED bank is FREE, a FILLING bank loses its binding, another bank stays (R94, R98). -/
def Bank.letGo (b : Bank) : Bank :=
  match b.state with
  | .loaded => { b with state := .free, binding := none }
  | .filling => { b with binding := none }
  | .free | .shown => b

/-- The banks that `hit` names are let go, those LOADED leave the loaded-job queue, and the rest of the Panel Store stays (R95, R98). -/
def State.banksLetGo (s t : State) (hit : BankId → Bool) : Prop :=
  (∀ id, t.bank id = if hit id = true then (s.bank id).letGo else s.bank id) ∧
  t.panel.queue = s.panel.queue.filter (fun id => !(hit id && decide ((s.bank id).state = .loaded))) ∧
  t.panel.selected = s.panel.selected ∧ t.panel.awaiting = s.panel.awaiting ∧ t.panel.strobing = s.panel.strobing ∧
  t.panel.showRisen = s.panel.showRisen

/-- The master of a slot enters RELEASING, with its plate as it is (R17; log entry 15 for the records' bank field). -/
def State.entersReleasing (s t : State) (sl : Slot) : Prop :=
  t.masters = s.masters.set sl { s.master sl with state := .releasing,
                                                  fields := (s.master sl).fields.map (fun f => { f with indexBindings := 0 }) } ∧
  t.dir = { s.dir with keyTable := s.dir.keyTable.map (fun r => if r.slot = sl then { r with bank := none } else r) } ∧
  t.releaseQueue = s.releaseQueue ++ [sl] ∧
  t.raster = { s.raster with place := if s.raster.place = .queued sl then .empty else s.raster.place } ∧
  s.banksLetGo t (fun id => decide (s.bankSlot id = some sl))

/-! ## The words of the claims about the link -/

/-- The parameter length of each request code (R184). -/
def codeLength (code : Byte) : Option Nat :=
  if code = 0 then none else ([1, 14, 1, 1, 1, 8, 7, 2, 9, 3, 2, 2, 2, 1, 1, 0, 0, 1, 4, 2, 1] : List Nat)[code.toNat - 1]?

/-- SYNC, without a tail or a pending answer; the close-gap count runs while the line is recessive (R167, R180). -/
def State.inSync (s : State) (recessive : Bool) : State :=
  { s with link := { s.link with iface := .sync, tail := none, gapCount := recessive }, answer := none }

/-- A link fault: SYNC, the reason recorded, LNK latched (R179). -/
def State.linkFailed (s : State) (r : LinkReason) : State :=
  { s with link := { s.link with iface := .sync, tail := none, gapCount := true, fault := r }, answer := none,
           sup := { s.sup with lnk := true } }

/-- WAIT_MARK, without a tail or a pending answer (R172, R173, R177). -/
def State.waitsForMark (s : State) : State := { s with link := { s.link with iface := .waitMark, tail := none }, answer := none }

/-- A lost group PLACE that shows a range clash (R34). -/
def State.answersClash (s : State) : Bool :=
  decide (∃ p, s.answer = some p ∧ p.dst = .group ∧ p.code = 0x06 ∧ (p.result = some .ok ∨ p.result = some .duplicate ∨
    p.result = some .masterFull ∨ p.result = some .directoryFull))

/-- A tail that has lost arbitration: CLS on a range clash, then WAIT_MARK, or ROLL_WAIT with the roll byte to be sent again (R34, R174, R177). -/
def State.tailLost (s : State) : State :=
  match s.link.tail with
  | some { bytes := .roll b, nextBit := _, cut := _ } =>
    { s with link := { s.link with iface := .rollWait, tail := some { bytes := .roll b, nextBit := 0, cut := false } }, answer := none,
             sup := { s.sup with cls := s.sup.cls || s.answersClash } }
  | _ => { s.waitsForMark with sup := { s.sup with cls := s.sup.cls || s.answersClash } }

/-- The bytes of a tail that has come to a bit: from bit 8 on the status byte of a DATA tail has been read (R176; log entry 8). -/
def State.bytesAt (s : State) (n : Nat) : TailBytes → TailBytes
  | .data head none payload => .data head (if n < 8 then none else some s.statusByte) payload
  | .data head (some b) payload => .data head (some b) payload
  | .ack head => .ack head
  | .roll b => .roll b

/-- A difference that the line can show at bit `n` of bytes that travel most significant bit first: lost arbitration where a 1 is sent, a bit
error where a 0 is sent, any other cause at any bit (R165, R174). -/
def differs (bytes : List Byte) (n : Nat) (cause : CutCause) : Prop :=
  n < 8 * bytes.length ∧ (cause = .lostArbitration → (bitsOf bytes)[n]? = some true) ∧ (cause = .bitError → (bitsOf bytes)[n]? = some false)

/-- What follows a cut-off whose cause is settled (R174, R180). -/
def State.causeSettled (s : State) : CutCause → State
  | .lostArbitration => s.tailLost
  | .bitError => s.linkFailed .bitError
  | .breakPulse => s.inSync false
  | .invalidSymbol => s.linkFailed .badSymbol
  | .unsettled => { s with link := { s.link with tail := s.link.tail.map (fun t => { t with cut := true }) } }

/-! ## The words of the claims about rasters -/

/-- The bank that a header is bound to (R76). -/
def State.isFreeBank (s : State) (id : BankId) : Prop :=
  match id with
  | .a => s.panel.bankA.state = .free
  | .b => s.panel.bankA.state ≠ .free ∧ s.panel.bankB.state = .free

/-- A raster refused, with its four header words consumed: DRAIN or DISCARD, the raster fault recorded, RAS latched (R73, R80, R82). -/
def State.refusesRaster (s : State) (d : Decoder) (why : RasterReason) (handle : Half) : State :=
  { s with raster := { s.raster with fifo := [], decoder := d, faultReason := why, faultHandle := handle },
           sup := { s.sup with ras := true } }

/-- A raster bound to a bank, with its four header words consumed: FILL, the bank FILLING with its binding and row count (R76). -/
def State.bindsRaster (s : State) (id : BankId) (bd : Binding) (rows : Fin 1537) (sum : Word) (handle : Half) : State :=
  let f : Fill := { bank := id, rows := rows, sum := sum, handle := handle, running := 0, count := 0 }
  { s with raster := { s.raster with fifo := [], decoder := .fill f },
           panel := s.panel.setBank id { s.bank id with state := .filling, binding := some bd, rows := rows.val } }

/-- A bank freed: FREE without a binding, and out of the loaded-job queue (R95). -/
def State.freesBank (s t : State) (id : BankId) : Prop :=
  t.panel = { s.panel.setBank id { s.bank id with state := .free, binding := none } with
              queue := s.panel.queue.filter (fun q => decide (q ≠ id)) }

/-- What a failed or flushed fill does to what its bank was bound to (R13, R47, R78, R83). -/
def State.unbinds (s t : State) : Binding → Prop
  | .record h => t.masters = s.masters ∧ ∀ r, s.resolve h = some r →
      t.dir = s.dirWith r.entry (fun x => { x with state := .awaiting, bank := none })
  | .index sl _ => t.dir = s.dir ∧ (∀ o, o ≠ sl → t.master o = s.master o) ∧ t.master sl = { s.master sl with
      fields := (s.master sl).fields.map (fun f => { f with indexBindings := f.indexBindings - 1 }),
      state := if (s.master sl).state = .indexing ∧
          (∃ f, (s.master sl).fields = some f ∧ f.indexBindings - 1 = 0 ∧ f.partsExposed = 0) then .settled
        else (s.master sl).state }
  | .title _ => t.masters = s.masters ∧ t.dir = s.dir

/-! ## The words of the claims about jobs -/

/-- A record with an open time, if one is written (R114). -/
def Record.timed (r : Record) : Option Nat → Record
  | some ms => { r with openTime := some ms }
  | none => r

/-- The outcome exposed at the owners of a job (R13, R48, R115). -/
def State.exposedAs (s t : State) (j : Job) (openMs : Nat) : Prop :=
  s.freesBank t j.bank ∧
  match j.kind with
  | .document h _ => ∀ r, s.resolve h = some r →
      t.dir = s.dirWith r.entry (fun x => { x with
        state := if x.retirePending then .withdrawn else .exposed, retirePending := false, bank := none, openTime := some openMs }) ∧
      t.masters = s.masters.set r.slot ((s.master r.slot).afterChange (fun m => m.set r.cell .exposed) (s.othersSettled r.slot r.entry))
  | .index part => t.dir = s.dir ∧ t.masters = s.masters.set j.slot { s.master j.slot with
      fields := (s.master j.slot).fields.map (fun f => { f with
        cells := f.cells.set (f.format.indexCell part) .exposedIndex, indexBindings := f.indexBindings - 1,
        partsExposed := f.partsExposed + 1 }),
      state := if (s.master j.slot).state = .indexing ∧
          (∃ f, (s.master j.slot).fields = some f ∧ f.partsExposed + 1 = f.format.indexParts) then .indexed
        else (s.master j.slot).state }
  | .title => t.dir = s.dir ∧ t.masters = s.masters.set j.slot { s.master j.slot with
      state := if (s.master j.slot).state = .indexed then .finished else (s.master j.slot).state }

/-- The outcome spoiled at the owners of a document job (R48, R116). -/
def State.spoiledAs (s t : State) (id : BankId) (h : Handle) (openMs : Nat) : Prop :=
  s.freesBank t id ∧ ∀ r, s.resolve h = some r →
    (r.retirePending = true → t.dir = (s.afterDeletion r (fun m => m.set r.cell .void)).dir ∧
      t.masters = (s.afterDeletion r (fun m => m.set r.cell .void)).masters) ∧
    (r.retirePending = false →
      t.dir = s.dirWith r.entry (fun x => { x with state := .spoiled, bank := none, openTime := some openMs }) ∧
      t.masters = s.masters.set r.slot ((s.master r.slot).afterChange (fun m => m.set r.cell .void) false))

/-- The outcome spoiled at the owners of an index or title job: the master of a live state FAILED, its other bank let go (R14). -/
def State.spoilsMaster (s t : State) (j : Job) (cells : Format → List CellState → List CellState) (why : FailureReason) : Prop :=
  t.dir = s.dir ∧
  t.masters = s.masters.set j.slot { s.master j.slot with
    fields := (s.master j.slot).fields.map (fun f => { f with cells := cells f.format f.cells, indexBindings := 0 }),
    state := .failed, failure := some why } ∧
  t.bank j.bank = { s.bank j.bank with state := .free, binding := none } ∧
  ∀ hit : BankId → Bool, (∀ id, hit id = decide ((s.bank id).binding.bind s.bindingSlot = some j.slot)) →
    (∀ id, id ≠ j.bank → t.bank id = if hit id = true then (s.bank id).letGo else s.bank id) ∧
    t.panel.queue = s.panel.queue.filter (fun id => decide (id ≠ j.bank) && !(hit id && decide ((s.bank id).state = .loaded)))

/-- The outcome returned at the owners of a job (R48, R97). -/
def State.returnedAs (s t : State) (j : Job) (openMs : Option Nat) : Prop :=
  match j.kind with
  | .document h _ => ∀ r, s.resolve h = some r →
    (r.retirePending = true → t.dir = (s.afterDeletion r (fun m => m.set r.cell .free)).dir ∧
      t.masters = (s.afterDeletion r (fun m => m.set r.cell .free)).masters ∧
      t.bank j.bank = { s.bank j.bank with state := .free, binding := none } ∧
      t.panel.queue = s.panel.queue.filter (fun q => decide (q ≠ j.bank))) ∧
    (r.retirePending = false →
      t.dir = s.dirWith r.entry (fun x => { x.timed openMs with state := .loaded }) ∧
      t.masters = s.masters ∧ t.bank j.bank = { s.bank j.bank with state := .loaded } ∧ t.panel.queue = j.bank :: s.panel.queue)
  | .index _ | .title => t.dir = s.dir ∧ t.masters = s.masters ∧ t.bank j.bank = { s.bank j.bank with state := .loaded } ∧
      t.panel.queue = j.bank :: s.panel.queue

/-- The dose unit as the shutter closes: the counter and timers stop, a held duty is applied, and a pending calibration starts its gate (R135,
R138, R143). -/
def DoseUnit.closesTo (d t : DoseUnit) : Prop :=
  t.limitTimer = false ∧ t.darkWindow = .stopped ∧ t.openTimer = false ∧ t.duty = d.heldDuty.getD d.duty ∧ t.heldDuty = none ∧
  (∀ f, d.calibration = .pending f →
    t.calibration = .running f ∧ t.counter = .gating ∧ t.count = 0 ∧ t.gateTimer = true) ∧
  ((∀ f, d.calibration ≠ .pending f) →
    t.calibration = d.calibration ∧ t.counter = .idle ∧ t.count = d.count ∧ t.gateTimer = d.gateTimer) ∧
  t.base = d.base ∧ t.classes = d.classes ∧ t.trims = d.trims ∧ t.reference = d.reference ∧ t.pwmHigh = d.pwmHigh

/-- Only the exposure path and what a job's outcome reaches has changed: sequencer, dose unit, motion port, directory, masters, panel. -/
def State.pathChangesOnly (s t : State) : Prop :=
  t = { s with seq := t.seq, dose := t.dose, motion := t.motion, dir := t.dir, masters := t.masters, panel := t.panel }

/-- The sequencer without a job (R105, R121). -/
def Sequencer.stopped (path : PathState) (fault : PathFault) : Sequencer :=
  { path := path, haltPending := false, fault := fault, job := none, panelTimer := false }

/-- A removal end of a job of `s`: the path is FAULTED(PLATE_REMOVED) and the bank FREE; in EXPOSING the shutter closes, and in PREPARING the SHOW
and the move are abandoned. The record and the cell map stay, and no open time is written (R119). -/
def State.endsRemoved (s t : State) (j : Job) : Prop :=
  t = { s with seq := .stopped .faulted .plateRemoved, panel := t.panel, dose := t.dose, motion := t.motion } ∧
  t.panel = { s.panel.setBank j.bank { s.bank j.bank with state := .free, binding := none } with
              queue := s.panel.queue.filter (fun q => decide (q ≠ j.bank))
              awaiting := decide (s.seq.path ≠ .preparing) && s.panel.awaiting
              strobing := decide (s.seq.path ≠ .preparing) && s.panel.strobing } ∧
  (s.seq.path = .exposing → s.dose.closesTo t.dose ∧ t.dose.rate = s.dose.rate ∧ t.motion = s.motion) ∧
  (s.seq.path = .preparing → t.dose = s.dose ∧ t.motion = s.motion.abandon)

/-! ## Records, cell maps, banks and the job together (R13, R29, R57, R92) -/

/-- A record in the HELD group (R54, R57). -/
def RecState.holdsCell : RecState → Bool
  | .awaiting | .filling | .loaded | .inFlight => true
  | .exposed | .withdrawn | .spoiled | .lost => false

/-- The state of a cell of the master of a slot. -/
def State.cellState (s : State) (sl : Slot) (cell : Nat) : Option CellState := (s.master sl).fields.bind (fun f => f.cells[cell]?)

/-- The cell state that goes with a record's state in a map that moves (R22, R57). -/
def RecState.cell : RecState → CellState
  | .awaiting | .filling | .loaded | .inFlight => .held
  | .exposed | .withdrawn => .exposed
  | .spoiled | .lost => .void

/-- A record lies in its master's range and on a document cell of its format (R29), and its state, its cell's state and its master's state go
together (R3, R57). -/
def State.recordFits (s : State) (r : Record) : Prop :=
  (∃ f ∈ (s.master r.slot).fields, f.covers r.key.account = true ∧ r.cell < f.format.docCells) ∧
  ((s.master r.slot).state.mapMoves = true → r.state ≠ .lost ∧ s.cellState r.slot r.cell = some r.state.cell) ∧
  ((s.master r.slot).state.mapMoves = true → r.state.holdsCell = true ∨ r.state = .spoiled →
    (s.master r.slot).state = .opened ∨ (s.master r.slot).state = .closing) ∧
  ((s.master r.slot).state = .failed → r.state = .lost ∨ r.state = .exposed ∨ r.state = .withdrawn) ∧
  (r.retirePending = true → r.state = .inFlight)

/-- Every HELD or EXPOSED document cell of a map that moves is named by a record that gives it that state (R57). -/
def State.mapFits (s : State) (sl : Slot) : Prop :=
  (s.master sl).state.mapMoves = true →
    ∀ f ∈ (s.master sl).fields,
      (∀ n < f.format.docCells, (f.cells[n]? = some .held ∨ f.cells[n]? = some .exposed) →
        ∃ r ∈ s.dir.keyTable, r.slot = sl ∧ r.cell = n) ∧
      (∀ n < f.format.docCells, f.cells[n]? ≠ some .index ∧ f.cells[n]? ≠ some .exposedIndex) ∧
      (∀ p < f.format.indexParts, f.cells[f.format.indexCell p]? ≠ some .free ∧ f.cells[f.format.indexCell p]? ≠ some .held ∧
        f.cells[f.format.indexCell p]? ≠ some .exposed)

/-- The job's master has lost its plate, and the sequencer has not yet been told (R97, R119). -/
def State.jobOrphaned (s : State) : Prop := ∃ j ∈ s.seq.job, s.jobPlateGone j = true

/-- The record state that goes with a bank's state (R22, R92). -/
def BankState.recState : BankState → RecState
  | .free | .filling => .filling
  | .loaded => .loaded
  | .shown => .inFlight

/-- A bank's binding and what it is bound to agree (R13, R92), but for a SHOWN bank whose job's plate is gone (R97). -/
def State.bindingFits (s : State) (id : BankId) : Prop :=
  match (s.bank id).binding with
  | none => True
  | some bd =>
    ((s.bank id).state = .shown ∧ s.jobOrphaned) ∨
    match bd with
    | .record h => ∃ r, s.resolve h = some r ∧ r.state = (s.bank id).state.recState ∧ r.bank = some id ∧
        ((s.master r.slot).state = .opened ∨ (s.master r.slot).state = .closing)
    | .index sl part => (s.master sl).state = .indexing ∧ s.cellState sl ((((s.master sl).fields.map
        (fun f => f.format.indexCell part)).getD 0)) = some .index ∧
        ∃ f ∈ (s.master sl).fields, part < f.format.indexParts
    | .title sl => (s.master sl).state = .indexed

/-- Whether a bank counts in the index bindings of a slot (R2, R13). -/
def State.bindsIndex (s : State) (sl : Slot) (id : BankId) : Bool :=
  match (s.bank id).binding with
  | some (.index sl' _) => decide (sl' = sl)
  | some (.record _) | some (.title _) | none => false

/-- The index counts of a live master go with the banks and the map, and the master's state with the counts (R3, R13). -/
def State.indexFits (s : State) (sl : Slot) : Prop :=
  (s.master sl).state.live = true ∨ (s.master sl).state = .finished →
    ∀ f ∈ (s.master sl).fields,
      f.indexBindings = (s.bindsIndex sl .a).toNat + (s.bindsIndex sl .b).toNat ∧
      f.partsExposed = (List.range f.format.indexParts).countP (fun p => decide (f.cells[f.format.indexCell p]? = some .exposedIndex)) ∧
      ((s.master sl).state = .indexed ∨ (s.master sl).state = .finished → f.partsExposed = f.format.indexParts) ∧
      ((s.master sl).state = .indexing → f.partsExposed < f.format.indexParts ∧ (f.indexBindings ≠ 0 ∨ f.partsExposed ≠ 0)) ∧
      ((s.master sl).state = .opened ∨ (s.master sl).state = .closing ∨ (s.master sl).state = .settled →
        f.indexBindings = 0 ∧ f.partsExposed = 0)

/-- The job is the SHOWN bank's, with what its binding gave at the take (R105). -/
def State.jobMatches (s : State) : Prop :=
  ∀ j ∈ s.seq.job,
    match (s.bank j.bank).binding, j.kind with
    | some (.record h), .document h' cell => h = h' ∧ (s.jobOrphaned ∨ ∃ r, s.resolve h = some r ∧ r.slot = j.slot ∧ r.cell = cell)
    | some (.index sl part), .index part' => sl = j.slot ∧ part = part'
    | some (.title sl), .title => sl = j.slot
    | _, _ => False

/-- Records, cell maps, banks and the job agree, over consistent blocks. -/
def State.filmConsistent (s : State) : Prop :=
  s.dir.consistent ∧ s.mastersConsistent ∧ s.panelConsistent ∧ s.portConsistent ∧ s.pathConsistent ∧
  (∀ r ∈ s.dir.keyTable, s.recordFits r) ∧
  s.dir.keyTable.Pairwise (fun p q => ¬ (p.slot = q.slot ∧ p.cell = q.cell)) ∧
  (∀ sl, s.mapFits sl) ∧
  (∀ sl sl', sl ≠ sl' → (s.master sl).state = .opened → (s.master sl').state = .opened →
    ∀ f ∈ (s.master sl).fields, ∀ f' ∈ (s.master sl').fields, f.accountHigh.toNat < f'.accountLow.toNat ∨
      f'.accountHigh.toNat < f.accountLow.toNat) ∧
  s.bindingFits .a ∧ s.bindingFits .b ∧
  (s.panel.bankA.binding.isSome = true → s.panel.bankA.binding = s.panel.bankB.binding → s.jobOrphaned) ∧
  (∀ r ∈ s.dir.keyTable, ∀ id ∈ r.bank, ∃ h, (s.bank id).binding = some (.record h) ∧ s.resolve h = some r) ∧
  (∀ r ∈ s.dir.keyTable, (r.state = .filling ∨ r.state = .loaded ∨ r.state = .inFlight) → (s.master r.slot).state ≠ .releasing →
    r.bank.isSome = true) ∧
  (∀ sl, s.indexFits sl) ∧ s.jobMatches

end Sys2Proof.Machine
end

