-- ==== Sys2Proof/Certificates/Slice0/Obligations.lean ====
section
/-! DEFINITION. The statements for the provers: what the commands do, by the numbered rules, and what every step keeps. -/

open Sys2Proof Sys2Proof.Machine

/-! ## The step and the hard reset -/

/-- A step runs the command at the front of the queue with the queue's rest; with an empty queue the part idles (the model's choice, log entry
2). -/
def Obligations.StepRunsFrontCommand : Prop :=
  (∀ c rest s, s.pending = c :: rest → step s = exec c { s with pending := rest }) ∧
  (∀ s, s.pending = [] → step s = .next s)

/-- Every command is answered with a next state, from every state, and leaves the queue alone: none faults and none is refused. (The model's
choices: a command that finds no occasion changes nothing, log entry 3; the queue is filled from outside alone, log entry 21.) -/
def Obligations.EveryCommandCompletes : Prop :=
  ∀ c s, ∃ t, exec c s = .next t ∧ t.pending = s.pending

/-- R198: a hard reset holds every block in reset. But for the end of the reset and a power-up, a command taken during it changes the levels of
the pins alone (log entry 17). -/
def Obligations.ResetHoldsEveryBlock : Prop :=
  ∀ c s, s.sup.phase ≠ .running → c ≠ .powerUp → (∀ strap plates dir a f, c ≠ .hardResetEnd strap plates dir a f) →
    ∃ t, exec c s = .next t ∧ t = { s with pins := t.pins, plates := t.plates } ∧
      ∀ sl : Slot, t.plates[sl] = { s.plates[sl] with raw := t.plates[sl].raw }

/-- R198, R199: HARD_RESET_END samples the levels and puts every block at its reset values; the reset ends where the lines let it, LNK is then
set by a strap of 0 (R181), and the close-gap count of another strap runs if LINK is recessive then (R182). HARD_RESET_BEGIN and POWER_UP put
every block in reset, with the outputs low and LINK released. The model's choices: HARD_RESET_END outside a reset does nothing (log entry 3), the
values stand as soon as the reset begins (log entry 17), a power-up begins from any state (log entry 25), and the bank words stay (log entry 16). -/
def Obligations.HardResetsGiveResetValues : Prop :=
  (∀ (link : LinkPins) (plates : BitVec 6) (dir a f : Bool) s,
     (s.sup.phase = .running → exec (.hardResetEnd link plates dir a f) s = .next s) ∧
     (s.sup.phase ≠ .running → ∃ t, exec (.hardResetEnd link plates dir a f) s = .next t ∧
       t.atResetValues link.strap dir (fun sl => plates.getLsbD sl.val) ∧
       t.link.gapCount = (link.recessive && decide (link.strap ≠ 0) && decide (t.sup.phase = .running)) ∧
       t.pins = { strap := link.strap, dir := dir, attention := a, flush := f } ∧
       (s.sup.phase = .heldByLines → (a = true ∨ f = true) →
         t.sup = { lnk := false, ras := false, cls := false, plt := false, phase := .heldByLines }) ∧
       (s.sup.phase = .heldByLines → a = false → f = false →
         t.sup = { lnk := decide (link.strap = 0), ras := false, cls := false, plt := false, phase := .running }) ∧
       (s.sup.phase = .powerUp → a = true → f = true →
         t.sup = { lnk := false, ras := false, cls := false, plt := false, phase := .heldByLines }) ∧
       (s.sup.phase = .powerUp → (a = false ∨ f = false) →
         t.sup = { lnk := decide (link.strap = 0), ras := false, cls := false, plt := false, phase := .running }))) ∧
  (∀ c s, (c = .hardResetBegin ∧ s.sup.phase = .running ∨ c = .powerUp) →
     ∃ t, exec c s = .next t ∧
       t.atResetValues s.pins.strap s.pins.dir (fun sl => s.plates[sl].raw) ∧
       t.sup = { lnk := false, ras := false, cls := false, plt := false,
                 phase := if c = .powerUp then .powerUp else .heldByLines } ∧
       t.pins = (if c = .powerUp then s.pins else { s.pins with attention := true, flush := true }) ∧
       t.alert = false ∧ t.shutter = false ∧ t.ready = false ∧ (∀ n us, t.pullsLink n us = false) ∧ t.link.gapCount = false ∧
       (∀ us, t.lampPwm us = false) ∧ t.pnlSel = false ∧ (∀ us, t.pnlShow us = false) ∧ (∀ us, t.motGo us = false) ∧
       (∀ b, t.motClk b = false) ∧ (∀ n, t.motDat n = false) ∧
       (∀ id, (t.bank id).words = (s.bank id).words))

/-- State.reset has every value that the rules give for a reset, and the output pins of Panel Store and Motion Port are low in it. The model's
choices: the levels of the input pins, LINK among them (log entry 1), the empty queue (log entry 21), and that every word of the bank memories,
whose contents have no meaning (R104), reads 0 (log entry 16, unsafe). -/
def Obligations.ResetStateHasResetValues : Prop :=
  State.reset.atResetValues 4 false (fun _ => false) ∧ State.reset.pending = [] ∧
    State.reset.sup = { lnk := false, ras := false, cls := false, plt := false, phase := .running } ∧
    State.reset.link.gapCount = true ∧ State.reset.pnlSel = false ∧ (∀ us, State.reset.pnlShow us = false) ∧
    (∀ us, State.reset.motGo us = false) ∧ (∀ b, State.reset.motClk b = false) ∧ (∀ n, State.reset.motDat n = false) ∧
    State.reset.pins = { strap := 4, dir := false, attention := false, flush := false } ∧
    (∀ id a, Memory.read (State.reset.bank id).words a = 0)

/-! ## Plates and the release deletion -/

/-- R1, R4, R8: a change of the raw level restarts the slot's settle timer; its expiry gives no event where the level equals the debounced
state, and else makes it the debounced state: an insertion makes an EMPTY master LOADED, and insertion and removal leave FAILED and RELEASING
masters as they are. Nothing else changes. The model's choices: an expiry with the timer stopped does nothing (log entry 3), and so does a level
told again (log entry 28). -/
def Obligations.PlateLevelsSettle : Prop :=
  ∀ (sl : Slot) s, s.sup.phase = .running →
    (∀ level, s.plates[sl].raw ≠ level →
      exec (.plateLevelChange sl level) s =
        .next (s.setPlate sl { raw := level, debounced := s.plates[sl].debounced, settling := true })) ∧
    (exec (.plateLevelChange sl s.plates[sl].raw) s = .next s) ∧
    (s.plates[sl].settling = false → exec (.plateSettleExpiry sl) s = .next s) ∧
    (s.plates[sl].settling = true → s.plates[sl].raw = s.plates[sl].debounced →
      exec (.plateSettleExpiry sl) s = .next (s.setPlate sl { s.plates[sl] with settling := false })) ∧
    (s.plates[sl] = { raw := true, debounced := false, settling := true } → (s.master sl).state = .empty →
      exec (.plateSettleExpiry sl) s =
        .next ((s.setPlate sl { raw := true, debounced := true, settling := false }).setMaster sl
          { s.master sl with state := .loaded })) ∧
    (∀ level, s.plates[sl] = { raw := level, debounced := !level, settling := true } →
      (s.master sl).state = .failed ∨ (s.master sl).state = .releasing →
      exec (.plateSettleExpiry sl) s = .next (s.setPlate sl { raw := level, debounced := level, settling := false }))

/-- R5: a plate removed event in LOADED or SPENT makes the master EMPTY, and touches nothing else. -/
def Obligations.PlateRemovedEmptiesSlot : Prop :=
  ∀ (sl : Slot) s, s.sup.phase = .running → s.plates[sl] = { raw := false, debounced := true, settling := true } →
    (s.master sl).state = .loaded ∨ (s.master sl).state = .spent →
    exec (.plateSettleExpiry sl) s =
      .next ((s.setPlate sl { raw := false, debounced := false, settling := false }).setMaster sl { s.master sl with state := .empty })

/-- R6: a plate removed event in a live state fails the master, loses its records, frees its LOADED banks and orphans its FILLING bank, sets
PLT and reports the removal; the SHOWN bank, the other slots and everything else stay. R93: a header that waits for a bank is examined if one
is freed. (The model's choice: the reports wait in a queue, log entry 12.) -/
def Obligations.PlateRemovedFailsLiveMaster : Prop :=
  ∀ (sl : Slot) s, s.sup.phase = .running → s.plates[sl] = { raw := false, debounced := true, settling := true } →
    (s.master sl).state.live = true → s.streamFits →
    ∃ t t', exec (.plateSettleExpiry sl) s = .next t' ∧ t.thenExamines t' ∧
      t.master sl = { state := .failed, fields := (s.master sl).fields.map (fun f => { f with indexBindings := 0 }),
                      generation := (s.master sl).generation, failure := some .plateRemoved } ∧
      (∀ o, o ≠ sl → t.master o = s.master o) ∧
      t.plates = s.plates.set sl { raw := false, debounced := false, settling := false } ∧
      t.dir = { s.dir with keyTable := s.dir.keyTable.map (fun r =>
        if r.slot = sl then { r with state := .lost, bank := none, retirePending := false } else r) } ∧
      s.banksLetGo t (fun id => decide (s.bankSlot id = some sl)) ∧
      t.sup = { s.sup with plt := true } ∧ t.removalReports = s.removalReports ++ [sl] ∧
      t.raster = s.raster ∧ t.seq = s.seq ∧ t.motion = s.motion ∧ t.dose = s.dose ∧ t.link = s.link ∧ t.answer = s.answer ∧
      t.pins = s.pins ∧ t.releaseQueue = s.releaseQueue

/-- R119: a job whose master has lost its plate ends as a removal end, whichever of these is taken first: the removal report of its slot, the
second readiness report, a gate's end or the opening of the shutter, a motion fault, a move timeout, the panel timeout, ATTENTION, the edge that
reaches the target, or the expiry of the limit timer or of the lamp-dark window. R93: a header that waits for a bank is then examined. A report
of another slot, without a job, or left over from an earlier job of the slot changes nothing else. (The model's choices, log entry 12: the
reports wait in a queue whose oldest is taken, and one left over from an earlier job does nothing.) -/
def Obligations.RemovalReportEndsTheJob : Prop :=
  (∀ (sl : Slot) rest s, s.sup.phase = .running → s.removalReports = sl :: rest →
    (∀ j ∈ s.seq.job, j.slot = sl → s.jobPlateGone j = false) → exec .plateRemovalReport s = .next { s with removalReports := rest }) ∧
  ∀ j c s base, s.sup.phase = .running → s.seq.job = some j → s.jobPlateGone j = true → s.streamFits →
    ((s.seq.path = .preparing ∨ s.seq.path = .exposing) ∧
        ((∃ rest, c = .plateRemovalReport ∧ s.removalReports = j.slot :: rest ∧ base = { s with removalReports := rest }) ∨
          (∃ ms, c = .attention ms ∧ s.pins.flush = false ∧ base = { s with pins := { s.pins with attention := true } })) ∨
      s.seq.path = .preparing ∧
        ((c = .shutterOpen ∧ j.arrived = true ∧ j.panelReady = true ∧ s.dose.gateRuns = false ∧ base = s) ∨
          (c = .panelReady ∧ s.panel.awaiting = true ∧ j.arrived = true ∧ s.dose.gateRuns = false ∧ base = s) ∨
          (c = .inPosition ∧ s.motion.port = .moving ∧ j.panelReady = true ∧ s.dose.gateRuns = false ∧
            base = { s with motion := { s.motion with
              port := .idle, target := none, moveTimer := false, turret := s.motion.target.map (fun m => m.turret) } }) ∨
          (∃ f, c = .gateEnd ∧ s.dose.calibration = .running f ∧ j.arrived = true ∧ j.panelReady = true ∧
            base = { s with dose := { s.dose with
              counter := .idle, rate := BitVec.ofNat 16 (min 65535 s.dose.count), calibration := .none, gateTimer := false,
              reference := if f then BitVec.ofNat 16 (min 65535 s.dose.count) else s.dose.reference,
              duty := s.dose.heldDuty.getD s.dose.duty, heldDuty := none } }) ∨
          (s.motion.port = .moving ∧ (c = .motionFault ∨ c = .moveTimerExpiry ∧ s.motion.moveTimer = true) ∧
            base = { s with motion := { s.motion with port := .idle, target := none, moveTimer := false, turret := none } }) ∨
          (c = .panelTimeout ∧ s.seq.panelTimer = true ∧ base = s)) ∨
      s.seq.path = .exposing ∧
        ((∃ ms, (c = .photoPulse ms ∨ c = .countReachesT ms) ∧ s.dose.counter = .integrating ∧ j.target ≤ s.dose.count + 1 ∧
            base = { s with dose := { s.dose with count := s.dose.count + 1, darkWindow := .spent } }) ∨
          (c = .limitExpiry ∧ s.dose.limitTimer = true ∧ base = s) ∨
          (c = .lampDarkExpiry ∧ s.dose.darkWindow = .running ∧ base = s))) →
    ∃ t t', exec c s = .next t' ∧ t.thenExamines t' ∧ base.endsRemoved t j

/-- R18, R19, R26: a release deletion deletes the first record of the slot at the head of the release queue, its entry going to the tail of the
free list with its stamp advanced; with the last record, or where none is left, the master is SPENT or EMPTY by its plate and the slot leaves
the queue. While a listing of the slot runs, nothing is deleted. (Log entry 14: which command deletes the last record.) -/
def Obligations.ReleaseDeletionRuns : Prop :=
  ∀ (sl : Slot) rest s, s.sup.phase = .running → s.releaseQueue = sl :: rest →
    (s.raster.place = .inProgress sl → exec .releaseDeletion s = .next s ∧ exec .releaseEnd s = .next s) ∧
    (s.raster.place ≠ .inProgress sl →
      (∀ r r' more, s.recordsOf sl = r :: r' :: more →
        exec .releaseDeletion s = .next { s with dir :=
          { stamps := s.dir.stamps.set r.entry (s.dir.stamps[r.entry] + 1), freeList := s.dir.freeList ++ [r.entry],
            keyTable := s.dir.keyTable.filter (fun x => decide (x.entry ≠ r.entry)) } }) ∧
      (∀ r, s.recordsOf sl = [r] → ∀ c, c = .releaseDeletion ∨ c = .releaseEnd →
        exec c s = .next { s with
          dir := { stamps := s.dir.stamps.set r.entry (s.dir.stamps[r.entry] + 1), freeList := s.dir.freeList ++ [r.entry],
                   keyTable := s.dir.keyTable.filter (fun x => decide (x.entry ≠ r.entry)) }
          masters := s.masters.set sl { state := if s.plates[sl].debounced then .spent else .empty, fields := none,
                                        generation := (s.master sl).generation, failure := none }
          releaseQueue := rest }) ∧
      (s.recordsOf sl = [] →
        exec .releaseEnd s = .next { s with
          masters := s.masters.set sl { state := if s.plates[sl].debounced then .spent else .empty, fields := none,
                                        generation := (s.master sl).generation, failure := none }
          releaseQueue := rest }))

/-! ## Requests: dispatch, STATUS and masters -/

/-- R185, R186, R187, R188: outside REQUEST a request row does nothing (log entry 6); a group request of a code that only a direct target reaches
goes unanswered, and so do PLACE and LOOKUP while a long operation runs; a direct request without authority is answered DENIED, and, while a long
operation runs, one with authority BUSY, but for STATUS and MASTER_STATE. Nothing else changes. -/
def Obligations.RequestDispatchChecks : Prop :=
  ∀ c dst src code params s, requestParts c = some (dst, src, code, params) → s.sup.phase = .running →
    (s.link.iface ≠ .request → exec c s = .next s) ∧
    (s.link.iface = .request →
      (dst = .group → code ≠ 0x01 → code ≠ 0x06 → code ≠ 0x07 → exec c s = .next s.unanswered) ∧
      (dst = .group → code = 0x06 ∨ code = 0x07 → s.releaseQueue ≠ [] → exec c s = .next s.unanswered) ∧
      (dst = .direct → s.authorises c = false → exec c s = .next (s.ackTail code .denied)) ∧
      (dst = .direct → s.authorises c = true → s.releaseQueue ≠ [] → code ≠ 0x01 → code ≠ 0x04 →
        exec c s = .next (s.ackTail code .busy)))

/-- R190, R194: a direct STATUS is answered with the 13 bytes of its payload, busy or not; a clear flag other than 0 and 1 is BAD_PARAM; a group
STATUS is answered with a roll byte of ALERT, halted, faulted and directory low. Nothing but the tail and the pending answer changes. R22, R52,
R81, R91, R106, R127, R151, R179, R189, R194: the codes in the bytes of tails and roll bytes, by value. -/
def Obligations.StatusReportsTheWriter : Prop :=
  (∀ (src : Node) (clear : Byte) s, s.takesRequest →
     (clear = 0 ∨ clear = 1 ∧ src = 0 → exec (.status .direct src clear) s =
       .next { s.dataTail 0x01
                 ([s.seq.path.code,
                   s.panel.bankA.state.code ++ s.panel.bankB.state.code ++
                     bit (decide (s.panel.bankA.state = .filling ∧ s.panel.bankA.binding = none)) ++
                     bit (decide (s.panel.bankB.state = .filling ∧ s.panel.bankB.binding = none)) ++ bankCode s.panel.queue.head?] ++
                   bytes2 (BitVec.ofNat 16 s.dir.freeList.length) ++ [s.link.fault.code, s.raster.faultReason.code] ++
                   bytes2 s.raster.faultHandle ++ bytes2 s.dose.rate ++ bytes2 s.dose.reference ++ [s.seq.fault.code]) with
               answer := some { dst := .direct, code := 0x01, result := some .ok, created := none, clearing := decide (clear = 1) } }) ∧
     (clear ≠ 0 → clear ≠ 1 → exec (.status .direct src clear) s = .next (s.ackTail 0x01 .badParam)) ∧
     exec (.status .group src clear) s = .next (s.rollTail 0x01 (bit s.alert ++ bit s.hlt ++ bit s.flt ++ bit s.dlo))) ∧
  [PathState.idle, .preparing, .exposing, .halted, .faulted].map PathState.code = [0, 1, 2, 3, 4] ∧
  [PathFault.none, .underdose, .lampLow, .lampDark, .plateRemoved, .motionTimeout, .motionFault, .panelTimeout].map PathFault.code =
    [0, 1, 2, 3, 4, 5, 6, 7] ∧
  [BankState.free, .filling, .loaded, .shown].map BankState.code = [0, 1, 2, 3] ∧ [none, some .a, some .b].map bankCode = [0, 1, 2] ∧
  [LinkReason.none, .badCrc, .badLength, .badSymbol, .bitError].map LinkReason.code = [0, 1, 2, 3, 4] ∧
  [RasterReason.none, .badMarker, .badRows, .badKind, .wrongHandle, .wrongState, .staleGeneration, .sumMismatch,
    .flushedMidRaster].map RasterReason.code = [0, 1, 2, 3, 4, 5, 6, 7, 8] ∧
  [Result.ok, .busy, .notFound, .duplicate, .outOfRange, .masterFull, .directoryFull, .wrongState, .badParam, .unknown, .denied,
    .failedMaster].map Result.code = [0, 1, 2, 3, 4, 5, 6, 7, 8, 9, 10, 11] ∧
  [MasterState.empty, .loaded, .opened, .closing, .settled, .indexing, .indexed, .finished, .releasing, .spent,
    .failed].map MasterState.code = [0, 1, 2, 3, 4, 5, 6, 7, 8, 9, 10] ∧
  [none, some .plateRemoved, some .indexSpoiled, some .titleSpoiled].map failureCode = [0, 1, 2, 3] ∧
  [Format.g1, .g2, .g3].map Format.code = [1, 2, 3] ∧
  [RecState.awaiting, .filling, .loaded, .inFlight, .exposed, .withdrawn, .spoiled, .lost].map (fun st => (st.code, st.mark.code)) =
    [(0, 2), (1, 2), (2, 2), (3, 2), (4, 0), (5, 1), (6, 3), (7, 4)]

/-- R9, R10: MASTER_OPEN's checks in their order, and the master that a taken one makes: OPEN, generation 0, no failure reason, both index counts
0, every index cell INDEX and every other cell FREE. Only the master, the tail and the pending answer change. -/
def Obligations.MasterOpenMakesTheMaster : Prop :=
  ∀ (slot format : Byte) (label : Half) (low high : Account) s, s.takesRequest → s.releaseQueue = [] →
    (5 < slot.toNat → exec (.masterOpen .direct 0 slot format label low high) s = .next (s.ackTail 0x02 .badParam)) ∧
    ∀ sl : Slot, slot.toNat = sl.val →
      ((s.master sl).state = .failed →
        exec (.masterOpen .direct 0 slot format label low high) s = .next (s.ackTail 0x02 .failedMaster)) ∧
      ((s.master sl).state ≠ .failed → (s.master sl).state ≠ .loaded →
        exec (.masterOpen .direct 0 slot format label low high) s = .next (s.ackTail 0x02 .wrongState)) ∧
      ((s.master sl).state = .loaded →
        ((∀ f : Format, format ≠ f.code) ∨ high.toNat < low.toNat →
          exec (.masterOpen .direct 0 slot format label low high) s = .next (s.ackTail 0x02 .badParam)) ∧
        ∀ f : Format, format = f.code → low.toNat ≤ high.toNat →
          ((∃ o, o ≠ sl ∧ (s.master o).state = .opened ∧
              ∃ g ∈ (s.master o).fields, low.toNat ≤ g.accountHigh.toNat ∧ g.accountLow.toNat ≤ high.toNat) →
            exec (.masterOpen .direct 0 slot format label low high) s = .next (s.ackTail 0x02 .outOfRange)) ∧
          ((∀ o, o ≠ sl → (s.master o).state = .opened →
              ∀ g ∈ (s.master o).fields, high.toNat < g.accountLow.toNat ∨ g.accountHigh.toNat < low.toNat) →
            exec (.masterOpen .direct 0 slot format label low high) s =
              .next (({ s with
                masters := s.masters.set sl
                  { state := .opened, generation := 0, failure := none,
                    fields := some
                      { format := f, label := label, accountLow := low, accountHigh := high, partsExposed := 0, indexBindings := 0,
                        cells := List.replicate f.docCells .free ++ List.replicate f.indexParts .index } } } : State).ackTail 0x02 .ok)))

/-- R11, R12: MASTER_CLOSE's checks, and its effect on an OPEN master: SETTLED if every record of the master is EXPOSED or WITHDRAWN, and CLOSING
otherwise, with its generation kept. R15, R194: MASTER_STATE is answered from any node, in every master state and during a long operation, with
the 16 bytes of its payload. -/
def Obligations.MasterCloseAndStateAnswer : Prop :=
  (∀ (slot : Byte) s, s.takesRequest → s.releaseQueue = [] →
     (5 < slot.toNat → exec (.masterClose .direct 0 slot) s = .next (s.ackTail 0x03 .badParam)) ∧
     ∀ sl : Slot, slot.toNat = sl.val →
       ((s.master sl).state = .failed → exec (.masterClose .direct 0 slot) s = .next (s.ackTail 0x03 .failedMaster)) ∧
       ((s.master sl).state ≠ .failed → (s.master sl).state ≠ .opened →
         exec (.masterClose .direct 0 slot) s = .next (s.ackTail 0x03 .wrongState)) ∧
       ((s.master sl).state = .opened → exec (.masterClose .direct 0 slot) s =
         .next (({ s with
           masters := s.masters.set sl
             { s.master sl with
               state := if ∀ r ∈ s.dir.keyTable, r.slot = sl → r.state = .exposed ∨ r.state = .withdrawn then .settled
                 else .closing } } : State).ackTail 0x03 .ok))) ∧
  (∀ (src : Node) (slot : Byte) s, s.takesRequest →
     (5 < slot.toNat → exec (.masterState .direct src slot) s = .next (s.ackTail 0x04 .badParam)) ∧
     ∀ sl : Slot, slot.toNat = sl.val → exec (.masterState .direct src slot) s =
       .next (s.dataTail 0x04
         ([(s.master sl).state.code, ((s.master sl).fields.map (fun f => f.format.code)).getD 0] ++
           bytes2 (((s.master sl).fields.map (fun f => f.label)).getD 0) ++
           [RecState.awaiting, .filling, .loaded, .inFlight, .exposed, .withdrawn, .spoiled, .lost].map (fun st =>
             BitVec.ofNat 8 (s.dir.keyTable.countP (fun r => decide (r.slot = sl ∧ r.state = st)))) ++
           [BitVec.ofNat 8 (((s.master sl).fields.map (fun f => f.cells.countP (fun c => decide (c = .free)))).getD 0)] ++
           bytes2 (s.master sl).generation ++ [failureCode (s.master sl).failure])))

/-- R16, R17, R7: MASTER_RELEASE's checks; a taken one, and the removal of the plate of a FINISHED master, enter RELEASING: LOADED banks of the
master are freed, the bindings become 0, the slot joins the release queue and a queued listing of it is withdrawn. R93: a header that waits for a
bank is examined if one is freed. (The model's choice: the records' bank fields, log entry 15.) -/
def Obligations.ReleaseIsEntered : Prop :=
  ∀ (sl : Slot) s, s.sup.phase = .running →
    (∀ slot : Byte, s.takesRequest → s.releaseQueue = [] →
      (5 < slot.toNat → exec (.masterRelease .direct 0 slot) s = .next (s.ackTail 0x05 .badParam)) ∧
      (slot.toNat = sl.val →
        ((s.master sl).state = .empty ∨ (s.master sl).state = .loaded ∨ (s.master sl).state = .spent ∨ (s.master sl).state = .releasing →
          exec (.masterRelease .direct 0 slot) s = .next (s.ackTail 0x05 .wrongState)) ∧
        ((∃ id, ((s.bank id).state = .filling ∨ (s.bank id).state = .shown) ∧ s.bankSlot id = some sl) →
          exec (.masterRelease .direct 0 slot) s = .next (s.ackTail 0x05 .wrongState)) ∧
        ((s.master sl).state.live = true ∨ (s.master sl).state = .finished ∨ (s.master sl).state = .failed →
          (∀ id, s.bankSlot id = some sl → (s.bank id).state ≠ .filling ∧ (s.bank id).state ≠ .shown) → s.streamFits →
          ∃ t t', exec (.masterRelease .direct 0 slot) s = .next (t'.ackTail 0x05 .ok) ∧ t.thenExamines t' ∧ s.entersReleasing t sl ∧
            t = { s with masters := t.masters, dir := t.dir, releaseQueue := t.releaseQueue, raster := t.raster, panel := t.panel }))) ∧
    (s.plates[sl] = { raw := false, debounced := true, settling := true } → (s.master sl).state = .finished → s.streamFits →
      ∃ t t', exec (.plateSettleExpiry sl) s = .next t' ∧ t.thenExamines t' ∧ s.entersReleasing t sl ∧
        t = { s with plates := s.plates.set sl { raw := false, debounced := false, settling := false },
                     masters := t.masters, dir := t.dir, releaseQueue := t.releaseQueue, raster := t.raster, panel := t.panel })

/-! ## Requests: records -/

/-- R31: PLACE's checks in their order: BAD_PARAM for a cycle or page of 0 or a class above 7; DUPLICATE with the handle and image of the record
that holds the key (which, where several are not WITHDRAWN, is free: log entry 22); OUT_OF_RANGE to a direct request and no tail to a group
request where no OPEN master covers the account; MASTER_FULL; DIRECTORY_FULL. R32, R25: a PLACE that passes every check creates the record in
AWAITING at the head entry of the free list and the lowest FREE cell of the covering master, which becomes HELD, files it, advances the
generation, and answers with slot, cell and handle. -/
def Obligations.PlaceCreatesTheRecord : Prop :=
  (∀ dst (src : Node) (k : Key) (cls : Byte) s, s.takesRequest → s.releaseQueue = [] →
    (k.cycle = 0 ∨ k.page = 0 ∨ 7 < cls.toNat → exec (.place dst src k cls) s = .next (s.placeRefused dst .badParam)) ∧
    (k.cycle ≠ 0 → k.page ≠ 0 → cls.toNat ≤ 7 →
      ((∃ r ∈ s.dir.keyTable, r.key = k ∧ r.state ≠ .withdrawn) → ∃ r ∈ s.dir.keyTable, r.key = k ∧ r.state ≠ .withdrawn ∧
        exec (.place dst src k cls) s = .next (s.placeTail dst .duplicate (bytes2 (s.handleOfRecord r) ++ recordImage r) none)) ∧
      ((∀ r ∈ s.dir.keyTable, r.key = k → r.state = .withdrawn) →
        (s.coveredByNone k.account → exec (.place dst src k cls) s =
          .next (match dst with
            | .direct => s.placeRefused .direct .outOfRange
            | .group => s.unanswered)) ∧
        ∀ sl f, s.coveredOnlyBy k.account sl f →
          ((∀ c ∈ f.cells, c ≠ .free) → exec (.place dst src k cls) s = .next (s.placeRefused dst .masterFull)) ∧
          (∀ cell, f.firstFree cell → s.dir.freeList = [] →
            exec (.place dst src k cls) s = .next (s.placeRefused dst .directoryFull))))) ∧
  ∀ dst (src : Node) (k : Key) (cls : Byte) (c : DoseClass) (sl : Slot) f cell e rest s, s.takesRequest → s.releaseQueue = [] →
    cls.toNat = c.val → k.cycle ≠ 0 → k.page ≠ 0 → (∀ r ∈ s.dir.keyTable, r.key = k → r.state = .withdrawn) →
    s.coveredOnlyBy k.account sl f → f.firstFree cell → s.dir.freeList = e :: rest →
    exec (.place dst src k cls) s = .next (({ s with
      dir :=
        { stamps := s.dir.stamps, freeList := rest,
          keyTable := filedAt
            { entry := e, key := k, slot := sl, cell := cell, state := .awaiting, retirePending := false, cls := c, source := src,
              bank := none, openTime := none, clamped := none } s.dir.keyTable }
      masters := s.masters.set sl
        { s.master sl with
          generation := (s.master sl).generation + 1
          fields := some { f with cells := f.cells.set cell .held } } } : State).placeTail dst .ok
      ([BitVec.ofNat 8 sl.val, BitVec.ofNat 8 cell] ++ bytes2 (handleOf e s.dir.stamps[e])) (some (handleOf e s.dir.stamps[e])))

/-- R35, R36: a direct LOOKUP gives the record with the key that is not WITHDRAWN, or else the last WITHDRAWN one, with the count of records with
the key; a group LOOKUP sends its state code with the more-than-one flag; without such a record the one is NOT_FOUND and the other unanswered.
(Which record, where several are not WITHDRAWN, is free: log entry 22.) -/
def Obligations.LookupChoosesTheRecord : Prop :=
  ∀ (src : Node) (k : Key) s, s.takesRequest → s.releaseQueue = [] →
    ((∀ r ∈ s.dir.keyTable, r.key ≠ k) →
      exec (.lookup src k) s = .next (s.ackTail 0x07 .notFound) ∧ exec (.groupLookup src k) s = .next s.unanswered) ∧
    ((∃ r ∈ s.dir.keyTable, r.key = k) →
      ∃ r ∈ s.dir.keyTable, r.key = k ∧
        (r.state = .withdrawn → (∀ x ∈ s.dir.keyTable, x.key = k → x.state = .withdrawn) ∧
          (s.dir.keyTable.filter (fun x => decide (x.key = k))).getLast? = some r) ∧
        exec (.lookup src k) s = .next (s.dataTail 0x07 (bytes2 (s.handleOfRecord r) ++ recordImage r ++
          [BitVec.ofNat 8 (min 255 (s.dir.keyTable.countP (fun x => decide (x.key = k))))])) ∧
        exec (.groupLookup src k) s =
          .next (s.rollTail 0x07 (bit (decide (1 < s.dir.keyTable.countP (fun x => decide (x.key = k)))) ++ r.state.code)))

/-- R23, R37, R193: FETCH answers the record image of the record in the entry that the handle names if the stamps are equal, and NOT_FOUND if the
entry is free or its stamp differs. -/
def Obligations.FetchGivesTheRecordImage : Prop :=
  ∀ (src : Node) (h : Handle) s, s.takesRequest → s.releaseQueue = [] →
    (∀ r, s.dir.keyTable.filter (fun x => decide (x.entry.val = (h.extractLsb' 6 10).toNat)) = [r] →
      s.dir.stamps[r.entry] = h.extractLsb' 0 6 →
      exec (.fetch .direct src h) s = .next (s.dataTail 0x08
        (bytes5 r.key.account ++ [r.key.cycle, r.key.page, BitVec.ofNat 8 r.slot.val, BitVec.ofNat 8 r.cell,
          r.state.code ++ bit r.retirePending ++ bit (decide (r.clamped = some true)) ++ bit r.openTime.isSome ++ bankCode r.bank,
          BitVec.ofNat 4 r.cls.val ++ r.source] ++ bytes2 (BitVec.ofNat 16 (r.openTime.getD 0))))) ∧
    (s.dir.stamps[(h.extractLsb' 6 10).toFin] ≠ h.extractLsb' 0 6 ∨
        (∀ x ∈ s.dir.keyTable, x.entry.val ≠ (h.extractLsb' 6 10).toNat) →
      exec (.fetch .direct src h) s = .next (s.ackTail 0x08 .notFound))

/-- R38, R39, R40: REKEY's checks in their order. A key that the record's own master covers is given to it, with its place in the key table, and
the generation advances; a key that another OPEN master covers moves the record to that master's lowest FREE cell, frees its old cell, advances
both generations, and settles the master it left if that is CLOSING and settled now; without such a master it is OUT_OF_RANGE, without a cell
MASTER_FULL. -/
def Obligations.RekeyChangesKeyOrMaster : Prop :=
  (∀ (src : Node) (h : Handle) (k : Key) s, s.takesRequest → s.releaseQueue = [] →
     (s.resolve h = none → exec (.rekey .direct src h k) s =
       .next (s.ackTail 0x09 (if k.cycle = 0 ∨ k.page = 0 then .badParam else .notFound))) ∧
     ∀ r, s.resolve h = some r → src = 0 ∨ src = r.source →
       (k.cycle = 0 ∨ k.page = 0 → exec (.rekey .direct src h k) s = .next (s.ackTail 0x09 .badParam)) ∧
       (k.cycle ≠ 0 → k.page ≠ 0 →
         ((s.master r.slot).state = .failed → exec (.rekey .direct src h k) s = .next (s.ackTail 0x09 .failedMaster)) ∧
         ((s.master r.slot).state ≠ .failed →
           (r.state ≠ .awaiting → r.state ≠ .filling → r.state ≠ .loaded →
             exec (.rekey .direct src h k) s = .next (s.ackTail 0x09 .wrongState)) ∧
           (r.state = .awaiting ∨ r.state = .filling ∨ r.state = .loaded →
             ((∃ x ∈ s.dir.keyTable, x.entry ≠ r.entry ∧ x.key = k ∧ x.state ≠ .withdrawn) →
               exec (.rekey .direct src h k) s = .next (s.ackTail 0x09 .duplicate)) ∧
             ((∀ x ∈ s.dir.keyTable, x.entry ≠ r.entry → x.key = k → x.state = .withdrawn) →
               ∀ f, (s.master r.slot).fields = some f → f.accountLow.toNat ≤ k.account.toNat → k.account.toNat ≤ f.accountHigh.toNat →
               exec (.rekey .direct src h k) s = .next (({ s with
                 dir := { s.dir with
                   keyTable := if r.key = k then s.dir.keyTable
                     else filedAt { r with key := k } (s.dir.keyTable.filter (fun x => decide (x.entry ≠ r.entry))) }
                 masters := s.masters.set r.slot { s.master r.slot with generation := (s.master r.slot).generation + 1 } }
                 : State).dataTail 0x09 [BitVec.ofNat 8 r.slot.val, BitVec.ofNat 8 r.cell])))))) ∧
  (∀ (src : Node) (h : Handle) (k : Key) r s, s.takesRequest → s.releaseQueue = [] → s.resolve h = some r → src = 0 ∨ src = r.source →
     k.cycle ≠ 0 → k.page ≠ 0 → (s.master r.slot).state ≠ .failed → r.state = .awaiting ∨ r.state = .filling ∨ r.state = .loaded →
     (∀ x ∈ s.dir.keyTable, x.entry ≠ r.entry → x.key = k → x.state = .withdrawn) →
     (∀ f ∈ (s.master r.slot).fields, ¬ (f.accountLow.toNat ≤ k.account.toNat ∧ k.account.toNat ≤ f.accountHigh.toNat)) →
     (s.coveredByNone k.account → exec (.rekey .direct src h k) s = .next (s.ackTail 0x09 .outOfRange)) ∧
     ∀ (sl : Slot) f, s.coveredOnlyBy k.account sl f →
       ((∀ c ∈ f.cells, c ≠ .free) → exec (.rekey .direct src h k) s = .next (s.ackTail 0x09 .masterFull)) ∧
       ∀ cell, f.firstFree cell → exec (.rekey .direct src h k) s = .next (({ s with
         dir := { s.dir with
           keyTable := filedAt { r with key := k, slot := sl, cell := cell }
             (s.dir.keyTable.filter (fun x => decide (x.entry ≠ r.entry))) }
         masters := (s.masters.set sl ((s.master sl).afterChange (fun m => m.set cell .held) false)).set r.slot
           ((s.master r.slot).afterChange (fun m => m.set r.cell .free) (s.othersSettled r.slot r.entry)) }
         : State).dataTail 0x09 [BitVec.ofNat 8 sl.val, BitVec.ofNat 8 cell]))

/-- R41: SET_CLASS's checks in their order, and its effect: the record's class, and nothing else. R46: REPLACE's checks in their order, and its
effect: the SPOILED record is AWAITING on the lowest FREE cell of its master, which becomes HELD, without open time and clamped flag, and the
generation advances; the old cell stays. -/
def Obligations.SetClassAndReplaceChangeTheRecord : Prop :=
  (∀ (src : Node) (h : Handle) (cls : Byte) s, s.takesRequest → s.releaseQueue = [] →
     (s.resolve h = none → exec (.setClass .direct src h cls) s =
       .next (s.ackTail 0x0A (if 7 < cls.toNat then .badParam else .notFound))) ∧
     ∀ r, s.resolve h = some r → src = 0 ∨ src = r.source →
       (7 < cls.toNat → exec (.setClass .direct src h cls) s = .next (s.ackTail 0x0A .badParam)) ∧
       ∀ c : DoseClass, cls.toNat = c.val →
         ((s.master r.slot).state = .failed → exec (.setClass .direct src h cls) s = .next (s.ackTail 0x0A .failedMaster)) ∧
         ((s.master r.slot).state ≠ .failed →
           (r.state ≠ .awaiting → r.state ≠ .filling → r.state ≠ .loaded →
             exec (.setClass .direct src h cls) s = .next (s.ackTail 0x0A .wrongState)) ∧
           (r.state = .awaiting ∨ r.state = .filling ∨ r.state = .loaded → exec (.setClass .direct src h cls) s =
             .next (({ s with dir := s.dirWith r.entry (fun x => { x with cls := c }) }
               : State).ackTail 0x0A .ok)))) ∧
  (∀ (src : Node) (h : Handle) s, s.takesRequest → s.releaseQueue = [] →
     (s.resolve h = none → exec (.replace .direct src h) s = .next (s.ackTail 0x0C .notFound)) ∧
     ∀ r, s.resolve h = some r → src = 0 ∨ src = r.source →
       ((s.master r.slot).state = .failed → exec (.replace .direct src h) s = .next (s.ackTail 0x0C .failedMaster)) ∧
       ((s.master r.slot).state ≠ .failed →
         r.state ≠ .spoiled ∨ ¬ ((s.master r.slot).state = .opened ∨ (s.master r.slot).state = .closing) →
         exec (.replace .direct src h) s = .next (s.ackTail 0x0C .wrongState)) ∧
       ((s.master r.slot).state = .opened ∨ (s.master r.slot).state = .closing → r.state = .spoiled →
         ∀ f, (s.master r.slot).fields = some f →
           ((∀ c ∈ f.cells, c ≠ .free) → exec (.replace .direct src h) s = .next (s.ackTail 0x0C .masterFull)) ∧
           ∀ cell, f.firstFree cell → exec (.replace .direct src h) s = .next (({ s with
             dir := s.dirWith r.entry (fun x => { x with state := .awaiting, cell := cell, openTime := none, clamped := none })
             masters := s.masters.set r.slot
               { s.master r.slot with
                 generation := (s.master r.slot).generation + 1
                 fields := some { f with cells := f.cells.set cell .held } } } : State).dataTail 0x0C [BitVec.ofNat 8 cell])))

/-- R42 to R45: RETIRE's checks in their order, and its effect by the record's state. A bank of the record is let go. R93: a header that waits
for a bank is examined if one is freed. -/
def Obligations.RetireActsByState : Prop :=
  ∀ (src : Node) (h : Handle) s, s.takesRequest → s.releaseQueue = [] →
    (s.resolve h = none → exec (.retire .direct src h) s = .next (s.ackTail 0x0B .notFound)) ∧
    ∀ r, s.resolve h = some r → src = 0 ∨ src = r.source →
      ((s.master r.slot).state = .indexing ∨ (s.master r.slot).state = .indexed ∨ (s.master r.slot).state = .finished ∨
          r.state = .withdrawn →
        exec (.retire .direct src h) s = .next (s.ackTail 0x0B .wrongState)) ∧
      ((s.master r.slot).state ≠ .indexing → (s.master r.slot).state ≠ .indexed → (s.master r.slot).state ≠ .finished → s.streamFits →
        r.state ≠ .withdrawn → ∃ t t', t.thenExamines t' ∧
          exec (.retire .direct src h) s = .next (t'.dataTail 0x0B [if r.state = .exposed then 1 else if r.state = .inFlight then 2 else 0]) ∧
          (r.state = .awaiting → t = s.afterDeletion r (fun m => m.set r.cell .free)) ∧
          (r.state = .filling ∨ r.state = .loaded →
            t = { s.afterDeletion r (fun m => m.set r.cell .free) with panel := t.panel } ∧
            s.banksLetGo t (fun id => decide ((s.bank id).binding = some (.record h)))) ∧
          (r.state = .spoiled ∨ r.state = .lost → t = s.afterDeletion r (fun m => m)) ∧
          (r.state = .exposed → t = { s with
            dir := s.dirWith r.entry (fun x => { x with state := .withdrawn })
            masters := s.masters.set r.slot ((s.master r.slot).afterChange (fun m => m) (s.othersSettled r.slot r.entry)) }) ∧
          (r.state = .inFlight → t = { s with dir := s.dirWith r.entry (fun x => { x with retirePending := true }) }))

/-! ## Requests: index, title, path and dose -/

/-- R151, R152, R159, R194: INDEX_READ and TITLE_SUMMARY read the index list of a master, in key-table order, and change nothing but the tail and
the pending answer. -/
def Obligations.IndexAndTitleAreRead : Prop :=
  ∀ (src : Node) (slot page : Byte) s, s.takesRequest → s.releaseQueue = [] →
    (5 < slot.toNat → exec (.indexRead .direct src slot page) s = .next (s.ackTail 0x0D .badParam) ∧
      exec (.titleSummary .direct src slot) s = .next (s.ackTail 0x0F .badParam)) ∧
    ∀ sl : Slot, slot.toNat = sl.val →
      ((s.master sl).state = .empty ∨ (s.master sl).state = .loaded ∨ (s.master sl).state = .spent ∨ (s.master sl).state = .releasing →
        exec (.indexRead .direct src slot page) s = .next (s.ackTail 0x0D .wrongState) ∧
        exec (.titleSummary .direct src slot) s = .next (s.ackTail 0x0F .wrongState)) ∧
      ((s.master sl).state = .failed → exec (.titleSummary .direct src slot) s = .next (s.ackTail 0x0F .failedMaster)) ∧
      ((s.master sl).state.live = true ∨ (s.master sl).state = .finished ∨ (s.master sl).state = .failed →
        ∀ entry : Nat → List Byte,
          (∀ n, entry n = match (s.recordsOf sl)[n]? with
            | some r => bytes5 r.key.account ++ [r.key.cycle, r.key.page, BitVec.ofNat 8 r.cell, r.state.mark.code]
            | none => List.replicate 9 0) →
          exec (.indexRead .direct src slot page) s = .next (s.dataTail 0x0D (bytes2 (s.master sl).generation ++
            [BitVec.ofNat 8 (s.recordsOf sl).length] ++ entry (2 * page.toNat) ++ entry (2 * page.toNat + 1)))) ∧
      ((s.master sl).state.live = true ∨ (s.master sl).state = .finished →
        ∀ current, current = (s.recordsOf sl).filter (fun r => decide (r.state = .exposed)) →
          exec (.titleSummary .direct src slot) s = .next (s.dataTail 0x0F
            ((current.head?.map (fun r => keyBytes r.key)).getD (List.replicate 7 0) ++
              (current.getLast?.map (fun r => keyBytes r.key)).getD (List.replicate 7 0) ++
              [BitVec.ofNat 8 current.length, BitVec.ofNat 8 ((s.recordsOf sl).countP (fun r => decide (r.state = .withdrawn)))] ++
              bytes2 (s.master sl).generation)))

/-- R154, R86: LISTING's checks in their order, and its effect: the listing place is queued with the slot, and on an outbound port in HEADER
the listing begins at once. -/
def Obligations.ListingIsQueued : Prop :=
  ∀ (src : Node) (slot : Byte) s, s.takesRequest → s.releaseQueue = [] →
    (5 < slot.toNat → exec (.listing .direct src slot) s = .next (s.ackTail 0x0E .badParam)) ∧
    ∀ sl : Slot, slot.toNat = sl.val →
      ((s.master sl).state = .failed → exec (.listing .direct src slot) s = .next (s.ackTail 0x0E .failedMaster)) ∧
      ((s.master sl).state = .empty ∨ (s.master sl).state = .loaded ∨ (s.master sl).state = .spent ∨ (s.master sl).state = .releasing →
        exec (.listing .direct src slot) s = .next (s.ackTail 0x0E .wrongState)) ∧
      ((s.master sl).state.live = true ∨ (s.master sl).state = .finished →
        (s.raster.place ≠ .empty → exec (.listing .direct src slot) s = .next (s.ackTail 0x0E .wrongState)) ∧
        (s.raster.place = .empty → ∃ t, exec (.listing .direct src slot) s = .next (t.ackTail 0x0E .ok) ∧
          ({ s with raster := { s.raster with place := .queued sl } } : State).thenLists t))

/-- R123: HALT by the path state. R124: RESUME makes a HALTED or FAULTED path IDLE with no fault reason, and a job is taken in the same event if
one can be (R107); in another path state it is WRONG_STATE and changes nothing, the halt-pending flag among it. -/
def Obligations.HaltAndResumeMoveThePath : Prop :=
  (∀ s, s.takesRequest → s.releaseQueue = [] →
     (s.seq.path = .idle →
       exec (.halt .direct 0) s = .next (({ s with seq := { s.seq with path := .halted } } : State).ackTail 0x10 .ok)) ∧
     (s.seq.path = .preparing ∨ s.seq.path = .exposing →
       exec (.halt .direct 0) s = .next (({ s with seq := { s.seq with haltPending := true } } : State).ackTail 0x10 .ok)) ∧
     (s.seq.path = .halted ∨ s.seq.path = .faulted → exec (.halt .direct 0) s = .next (s.ackTail 0x10 .ok))) ∧
  (∀ s, s.takesRequest → s.releaseQueue = [] →
     (s.seq.path = .halted ∨ s.seq.path = .faulted → ∃ t, exec (.resume .direct 0) s = .next (t.ackTail 0x11 .ok) ∧
       ({ s with seq := { s.seq with path := .idle, fault := .none } } : State).thenTakes t) ∧
     (s.seq.path = .idle ∨ s.seq.path = .preparing ∨ s.seq.path = .exposing →
       exec (.resume .direct 0) s = .next (s.ackTail 0x11 .wrongState)))

/-- R138, R139: CALIBRATE's checks; a taken one is pending while the shutter is open, and in every other path state its gate starts at count 0. -/
def Obligations.CalibrateStartsOrWaits : Prop :=
  ∀ (flag : Byte) s, s.takesRequest → s.releaseQueue = [] →
    (flag ≠ 0 → flag ≠ 1 → exec (.calibrate .direct 0 flag) s = .next (s.ackTail 0x12 .badParam)) ∧
    (flag = 0 ∨ flag = 1 →
      (s.dose.calibration ≠ .none → exec (.calibrate .direct 0 flag) s = .next (s.ackTail 0x12 .busy)) ∧
      (s.dose.calibration = .none → s.seq.path = .exposing → exec (.calibrate .direct 0 flag) s =
        .next (({ s with dose := { s.dose with calibration := .pending (decide (flag = 1)) } } : State).ackTail 0x12 .ok)) ∧
      (s.dose.calibration = .none → s.seq.path ≠ .exposing → exec (.calibrate .direct 0 flag) s =
        .next (({ s with dose := { s.dose with calibration := .running (decide (flag = 1)), counter := .gating, count := 0,
                                               gateTimer := true } } : State).ackTail 0x12 .ok)))

/-- R144: SET_DOSE's dispatch, its checks, and its effect: one entry of the base table or of the class table. -/
def Obligations.SetDoseWritesOneEntry : Prop :=
  ∀ dst (src : Node) (table index : Byte) (value : Half) s, s.takesRequest →
    (dst = .group → exec (.setDose dst src table index value) s = .next s.unanswered) ∧
    (dst = .direct → src ≠ 0 → exec (.setDose dst src table index value) s = .next (s.ackTail 0x13 .denied)) ∧
    (dst = .direct → src = 0 → s.releaseQueue ≠ [] → exec (.setDose dst src table index value) s = .next (s.ackTail 0x13 .busy)) ∧
    (dst = .direct → src = 0 → s.releaseQueue = [] →
      (1 < table.toNat ∨ (table = 0 ∧ (index = 0 ∨ 3 < index.toNat)) ∨ (table = 1 ∧ 7 < index.toNat) ∨ value = 0 ∨
          (table = 1 ∧ 255 < value.toNat) →
        exec (.setDose dst src table index value) s = .next (s.ackTail 0x13 .badParam)) ∧
      (∀ n : Fin 3, table = 0 → index.toNat = n.val + 1 → value ≠ 0 → exec (.setDose dst src table index value) s =
        .next (({ s with dose := { s.dose with base := s.dose.base.set n value } } : State).ackTail 0x13 .ok)) ∧
      (∀ c : DoseClass, table = 1 → index.toNat = c.val → value ≠ 0 → value.toNat ≤ 255 →
        exec (.setDose dst src table index value) s =
          .next (({ s with dose := { s.dose with classes := s.dose.classes.set c (value.setWidth 8) } } : State).ackTail 0x13 .ok)))

/-- R145, R143: SET_TRIM's checks and its effect on the slot's trim; SET_LAMP sets the duty at once, but holds it while the shutter is open or a
gate runs. -/
def Obligations.SetTrimAndSetLampWrite : Prop :=
  ∀ (slot value duty : Byte) s, s.takesRequest → s.releaseQueue = [] →
    (5 < slot.toNat ∨ value = 0 → exec (.setTrim .direct 0 slot value) s = .next (s.ackTail 0x14 .badParam)) ∧
    (∀ sl : Slot, slot.toNat = sl.val → value ≠ 0 →
      ((s.master sl).state = .failed → exec (.setTrim .direct 0 slot value) s = .next (s.ackTail 0x14 .failedMaster)) ∧
      ((s.master sl).state ≠ .failed → exec (.setTrim .direct 0 slot value) s =
        .next (({ s with dose := { s.dose with trims := s.dose.trims.set sl value } } : State).ackTail 0x14 .ok))) ∧
    (s.seq.path = .exposing ∨ s.dose.gateRuns = true → exec (.setLamp .direct 0 duty) s =
      .next (({ s with dose := { s.dose with heldDuty := some duty } } : State).ackTail 0x15 .ok)) ∧
    (s.seq.path ≠ .exposing → s.dose.gateRuns = false → exec (.setLamp .direct 0 duty) s =
      .next (({ s with dose := { s.dose with duty := duty } } : State).ackTail 0x15 .ok))

/-! ## The cell link -/

/-- R169, R172, R184, R192, R193: a request portion of any request, in any priority, whose bits arrive whole before the turn gap ends, acts as
the request itself: every field is read back, with every value of every parameter. (The model's choice: a request row is the dispatch of a turn
gap's end, log entry 6.) -/
def Obligations.RequestPortionsDecode : Prop :=
  ∀ c dst src code params (priority : BitVec 3) s, requestParts c = some (dst, src, code, params) → s.takesRequest →
    s.link.rx = { bytes := [], bits := [] } →
    exec (.turnGapEnd (bitsOf (portionBytes priority (targetOf s.link.nodeId dst) src code params))) s =
      exec c { s with link := { s.link with
        rx := { bytes := portionBytes priority (targetOf s.link.nodeId dst) src code params, bits := [] } } }

/-- R172, R168, R179: at the end of the turn gap a portion with a part-byte or the wrong number of bytes is a link fault BAD_LENGTH, one whose
CRC differs BAD_CRC, and one for another target is left in WAIT_MARK; no other block changes. R184, R185, R188: a direct request with an unknown
code is answered UNKNOWN and one with the wrong number of parameter bytes BAD_PARAM, busy or not; sent to the group, both go unanswered, but for
a PLACE of the wrong length to a writer that is not busy, which is answered BAD_PARAM. -/
def Obligations.TurnGapRejectsPortions : Prop :=
  (∀ s, s.takesRequest → s.link.rx = { bytes := [], bits := [] } →
     (∀ bytes bits, bits.length < 8 → (bits ≠ [] ∨ ∀ b1 : Byte, bytes[1]? = some b1 → bytes.length ≠ 4 + (b1.extractLsb' 0 4).toNat) →
       exec (.turnGapEnd (bitsOf bytes ++ bits)) s =
         .next (({ s with link := { s.link with rx := { bytes := bytes, bits := bits } } } : State).linkFailed .badLength)) ∧
     (∀ (b0 b1 k : Byte) more, more.length = 1 + (b1.extractLsb' 0 4).toNat → crc (b0 :: b1 :: more) ≠ k →
       exec (.turnGapEnd (bitsOf (b0 :: b1 :: more ++ [k]))) s =
         .next (({ s with link := { s.link with rx := { bytes := b0 :: b1 :: more ++ [k], bits := [] } } } : State).linkFailed .badCrc)) ∧
     (∀ priority target src code params, params.length ≤ 15 → target ≠ 31 → target.toNat ≠ s.link.nodeId.toNat →
       exec (.turnGapEnd (bitsOf (portionBytes priority target src code params))) s =
         .next { s with link := { s.link with
           rx := { bytes := portionBytes priority target src code params, bits := [] }, iface := .waitMark } })) ∧
  (∀ priority src code params s t, s.takesRequest → s.link.rx = { bytes := [], bits := [] } → params.length ≤ 15 →
     (∀ n, codeLength code = some n → params.length ≠ n) → ∀ dst,
     t = { s with link := { s.link with
       rx := { bytes := portionBytes priority (targetOf s.link.nodeId dst) src code params, bits := [] } } } →
     exec (.turnGapEnd (bitsOf (portionBytes priority (targetOf s.link.nodeId dst) src code params))) s = .next
       (match dst with
         | .direct => t.ackTail code (if codeLength code = none then .unknown else .badParam)
         | .group => if code = 0x06 ∧ s.releaseQueue = [] then t.placeRefused .group .badParam else t.unanswered))

/-- R166, R167, R168, R172, R177, R180, R183: what marks, gaps, invalid symbols, breaks and a twentieth byte do in the states of the Link
Interface in which they come, ANSWER apart. The model's choices: CLOSE_GAP acts in SYNC whether or not the close-gap count runs (log entry 19),
and an event that cannot come in a state, as CLOSE_GAP in WAIT_MARK, does nothing (log entry 3). -/
def Obligations.LinkEventsOutsideAnswer : Prop :=
  ∀ s, s.sup.phase = .running →
    (s.link.iface = .off →
      ∀ c, c = .openingMark ∨ c = .invalidSymbol ∨ c = .breakPulse ∨ c = .closeGap ∨ c = .syncCountRestart ∨ c = .requestTooLong ∨
          c = .statusByteRead ∨ c = .tailComplete ∨ c = .rollSlotStart ∨ c = .rollGap →
        exec c s = .next s) ∧
    (s.link.iface = .sync →
      exec .closeGap s = .next { s with link := { s.link with iface := .waitMark, gapCount := false } } ∧
      (∀ c, c = .openingMark ∨ c = .invalidSymbol ∨ c = .syncCountRestart →
        exec c s = .next { s with link := { s.link with gapCount := true } }) ∧
      exec .breakPulse s = .next (s.inSync false)) ∧
    (s.link.iface = .waitMark →
      exec .openingMark s =
        .next { s with link := { s.link with iface := .request, rx := { bytes := [], bits := [] }, gapCount := false } } ∧
      exec .invalidSymbol s = .next s ∧ exec .closeGap s = .next s ∧ exec .breakPulse s = .next (s.inSync false)) ∧
    (s.link.iface = .request →
      exec .requestTooLong s = .next (s.linkFailed .badLength) ∧
      exec .openingMark s = .next (s.linkFailed .badSymbol) ∧ exec .invalidSymbol s = .next (s.linkFailed .badSymbol) ∧
      exec .breakPulse s = .next (({ s with link := { s.link with rx := { bytes := [], bits := [] } } } : State).inSync false)) ∧
    (s.link.iface = .rollWait →
      exec .openingMark s = .next (s.linkFailed .badSymbol) ∧ exec .invalidSymbol s = .next (s.linkFailed .badSymbol) ∧
      exec .breakPulse s = .next (s.inSync false) ∧ exec .rollGap s = .next s.waitsForMark ∧
      exec .rollSlotStart s = .next { s with link := { s.link with
        iface := .answer, tail := s.link.tail.map (fun t => { t with nextBit := 0 }) } })

/-- R173, R176, R191: the status byte of a DATA tail is read as its first bit period begins, and a clearing STATUS clears the latched flags that
it shows set; a complete tail leaves WAIT_MARK and no pending answer, with its status byte read by then. The model's choices: the status byte of
a tail whose STATUS_BYTE_READ was left out is read at its end (log entry 8), a tail cut off with its cause open is neither read nor completed
(log entry 7), and STATUS_BYTE_READ with no status byte to read does nothing (log entry 3). -/
def Obligations.TailsAreReadAndCompleted : Prop :=
  ∀ s, s.sup.phase = .running → s.link.iface = .answer →
    (∀ head payload n, s.link.tail = some { bytes := .data head none payload, nextBit := n, cut := false } →
      ∀ sup, sup = (if ∃ p, s.answer = some p ∧ p.clearing = true
        then { s.sup with lnk := false, ras := false, cls := false, plt := false } else s.sup) →
      exec .statusByteRead s = .next { s with
        sup := sup
        link := { s.link with tail := some { bytes := .data head (some s.statusByte) payload, nextBit := 8, cut := false } } } ∧
      exec .tailComplete s = .next { s.waitsForMark with sup := sup }) ∧
    (∀ t, s.link.tail = some t → t.cut = false → (∀ head payload, t.bytes ≠ .data head none payload) →
      exec .statusByteRead s = .next s ∧ exec .tailComplete s = .next s.waitsForMark) ∧
    (∀ t, s.link.tail = some t → t.cut = true → exec .statusByteRead s = .next s ∧ exec .tailComplete s = .next s)

/-- R174, R175, R177, R180, R34, R165: a tail that created no record, cut off at a bit, by its cause: lost arbitration (with CLS on a range
clash) where a 1 is sent, a bit error where a 0 is sent, and at any bit a break, an invalid symbol, or a cause still open, which a later report
at that bit settles. The model's choices: which commands report a cause (log entry 7), a report that the line cannot show does nothing (log entry
3), and a cut from bit 8 on finds the status byte of a DATA tail read (log entry 8). -/
def Obligations.CutOffTailsEndByTheirCause : Prop :=
  ∀ s t, s.sup.phase = .running → s.link.iface = .answer → s.link.tail = some t →
    (∀ bit cause, t.cut = true →
      (bit = t.nextBit → differs t.bytes.sent bit cause → exec (.tailCutOff bit cause) s = .next (s.causeSettled cause)) ∧
      (bit ≠ t.nextBit ∨ ¬ differs t.bytes.sent bit cause → exec (.tailCutOff bit cause) s = .next s)) ∧
    (∀ bit cause, t.cut = false → (bit < 8 ∨ ∀ head payload, t.bytes ≠ .data head none payload) →
      (t.nextBit ≤ bit → differs t.bytes.sent bit cause → (∀ p, s.answer = some p → p.created = none) →
        exec (.tailCutOff bit cause) s =
          .next (({ s with link := { s.link with tail := some { t with nextBit := bit } } } : State).causeSettled cause)) ∧
      (bit < t.nextBit ∨ ¬ differs t.bytes.sent bit cause → exec (.tailCutOff bit cause) s = .next s)) ∧
    (∀ bit cause head payload u, t.cut = false → 8 ≤ bit → t.bytes = .data head none payload → exec .statusByteRead s = .next u →
      (differs (s.bytesAt bit t.bytes).sent bit cause → exec (.tailCutOff bit cause) s = exec (.tailCutOff bit cause) u) ∧
      (¬ differs (s.bytesAt bit t.bytes).sent bit cause → exec (.tailCutOff bit cause) s = .next s)) ∧
    (t.cut = true ∨ (∀ p, s.answer = some p → p.created = none) ∧ (t.nextBit < 8 ∨ ∀ head payload, t.bytes ≠ .data head none payload) →
      exec .breakPulse s = .next (s.inSync false) ∧ exec .openingMark s = .next (s.linkFailed .badSymbol) ∧
        exec .invalidSymbol s = .next (s.linkFailed .badSymbol))

/-- R33, R34: a PLACE whose tail is cut off, with its cause settled or still open, or by a BREAK or an invalid symbol in ANSWER, is rolled back
by the state in which its record then stands: deleted in AWAITING, FILLING (its bank goes on as an orphan), LOADED (its bank is freed), SPOILED
and LOST, retire-pending in IN_FLIGHT, WITHDRAWN in EXPOSED. R93: a header that waits for a bank is examined if one is freed. Then the cause
acts. (The model's choices: BREAK and INVALID_SYMBOL cut the tail off at the bit last told, log entry 7, and the status byte is read by bit 8,
log entry 8.) -/
def Obligations.CutOffPlacementsAreRolledBack : Prop :=
  ∀ s t p h r c bit cause, s.sup.phase = .running → s.link.iface = .answer → s.link.tail = some t → t.cut = false →
    s.answer = some p → p.created = some h → p.clearing = false → s.resolve h = some r → s.streamFits →
    (c = .tailCutOff bit cause ∧ t.nextBit ≤ bit ∧ differs (s.bytesAt bit t.bytes).sent bit cause) ∨
      (bit = t.nextBit ∧ (c = .breakPulse ∧ cause = .breakPulse ∨ (c = .invalidSymbol ∨ c = .openingMark) ∧ cause = .invalidSymbol)) →
    ∃ u u', exec c s = .next (u'.causeSettled cause) ∧ u.thenExamines u' ∧
      u = { s with dir := u.dir, masters := u.masters, panel := u.panel,
                   link := { s.link with tail := some { t with bytes := s.bytesAt bit t.bytes, nextBit := bit } } } ∧
      s.banksLetGo u (fun id => decide ((s.bank id).binding = some (.record h) ∧ (r.state = .filling ∨ r.state = .loaded))) ∧
      (r.state = .awaiting ∨ r.state = .filling ∨ r.state = .loaded →
        u.dir = (s.afterDeletion r (fun m => m.set r.cell .free)).dir ∧
        u.masters = (s.afterDeletion r (fun m => m.set r.cell .free)).masters) ∧
      (r.state = .spoiled ∨ r.state = .lost →
        u.dir = (s.afterDeletion r (fun m => m)).dir ∧ u.masters = (s.afterDeletion r (fun m => m)).masters) ∧
      (r.state = .exposed → u.dir = s.dirWith r.entry (fun x => { x with state := .withdrawn }) ∧
        u.masters = s.masters.set r.slot ((s.master r.slot).afterChange (fun m => m) (s.othersSettled r.slot r.entry))) ∧
      (r.state = .inFlight → u.dir = s.dirWith r.entry (fun x => { x with retirePending := true }) ∧ u.masters = s.masters) ∧
      (r.state = .withdrawn → u.dir = s.dir ∧ u.masters = s.masters)

/-- R171, R176: a frame with its CRC leaves the register at 0, and any change of one byte of it leaves another value. -/
def Obligations.CrcCatchesEveryOneByteChange : Prop :=
  (∀ bytes, crc (bytes ++ [crc bytes]) = 0) ∧
  (∀ before after (b b' : Byte), b ≠ b' → crc (before ++ b :: after) ≠ crc (before ++ b' :: after)) ∧
  (∀ head status payload, crc (TailBytes.data head (some status) payload).sent = 0)

/-! ## The raster port -/

/-- R69, R70, R71, R77, R79, R80: an inbound half-word taken with READY high becomes the lone half, or completes a word, low half first. The word
joins the FIFO; the fourth of a header has it taken in the same event (R72: and examined if a bank is FREE); in FILL a word is moved into the
bank and the sum at once, in DRAIN and DISCARD it is consumed at once. READY falls at each edge that takes a half-word. With READY low, for want
of room, by FLUSH, or because it has not yet risen again, nothing is taken. (The model's choices: the last data word of a raster waits in the
FIFO, with those behind it, for a command of its own, log entry 5; an edge carries whether READY has risen again, log entry 30.) -/
def Obligations.HalfWordsMakeWords : Prop :=
  ∀ (data : Half) s, s.sup.phase = .running → s.raster.direction = .inbound →
    (s.pins.flush = true ∨ 64 ≤ s.raster.fifo.length → ∀ risen, exec (.halfWordIn ⟨data, risen⟩) s = .next s) ∧
    (s.raster.strobed = true → exec (.halfWordIn ⟨data, false⟩) s = .next s) ∧
    (s.pins.flush = false → s.raster.fifo.length < 64 → ∀ risen c taken, risen = true ∨ s.raster.strobed = false →
      c = .halfWordIn ⟨data, risen⟩ → taken = { s.raster with strobed := true, loneHalf := none } →
      (s.raster.loneHalf = none → exec c s = .next { s with raster := { taken with loneHalf := some data } }) ∧
      ∀ low, s.raster.loneHalf = some low →
        ((s.raster.decoder = .header ∧ s.raster.fifo.length < 3) ∨ (s.raster.decoder = .waitBank ∧ ∀ id, (s.bank id).state ≠ .free) →
          exec c s = .next { s with raster := { taken with fifo := s.raster.fifo ++ [data ++ low] } }) ∧
        (s.raster.decoder = .header → s.raster.fifo.length = 3 →
          exec c s = exec .headerTaken { s with raster := { taken with fifo := s.raster.fifo ++ [data ++ low] } }) ∧
        (s.raster.decoder = .discard → s.raster.fifo = [] → exec c s = .next { s with raster := taken }) ∧
        (s.raster.decoder = .drain 1 → exec c s = .next { s with raster := { taken with fifo := s.raster.fifo ++ [data ++ low] } }) ∧
        (∀ n, s.raster.decoder = .drain (n + 2) → s.raster.fifo = [] →
          exec c s = .next { s with raster := { taken with decoder := .drain (n + 1) } }) ∧
        (∀ f, s.raster.decoder = .fill f →
          (f.count + 1 = f.rows.val * 64 →
            exec c s = .next { s with raster := { taken with fifo := s.raster.fifo ++ [data ++ low] } }) ∧
          (f.count + 1 < f.rows.val * 64 → s.raster.fifo = [] → s.memoryConsistent → ∃ t, exec c s = .next t ∧
            t.raster = { taken with decoder := .fill { f with running := f.running + (data ++ low), count := f.count + 1 } } ∧
            (∀ a, Memory.read (t.bank f.bank).words a = if a = f.count then data ++ low else Memory.read (s.bank f.bank).words a) ∧
            t = { s with raster := t.raster, panel := s.panel.setBank f.bank { s.bank f.bank with words := (t.bank f.bank).words } })))

/-- R71, R72, R73, R74, R76, R82, R195: four words in HEADER are taken, and examined once a bank is FREE; with no bank FREE they stay, and
nothing else changes. A wrong marker, row count or kind discards the stream; a DOCUMENT raster for an unresolved handle or for a record that
cannot take it is drained; a good one is bound to bank A if it is FREE, and to bank B otherwise, and its record is FILLING. R75, R13, R156, R160:
by either command, an INDEX raster is bound for an index part of a SETTLED or INDEXING master that is neither exposed nor bound, if its
generation is the master's, and makes a SETTLED master INDEXING; a TITLE raster for an INDEXED master without a bound title; any other is
drained. The bank so bound shows dark from the row count on (R91). The model's choices: words that stand behind the header are consumed in the
same event, as if each came after it (log entry 5, unsafe); HEADER_TAKEN and HEADER_EXAMINATION are commands of their own beside the events in
which headers are taken and examined (log entry 4), and do nothing with no header to take or examine (log entry 3). -/
def Obligations.HeadersAreExamined : Prop :=
  (∀ s, s.sup.phase = .running →
     (s.raster.decoder ≠ .header → exec .headerTaken s = .next s) ∧ (s.raster.fifo.length < 4 → exec .headerTaken s = .next s) ∧
     (s.raster.decoder ≠ .waitBank → exec .headerExamination s = .next s) ∧
     ((∀ which, (s.bank which).state ≠ .free) →
       (s.raster.decoder = .waitBank → exec .headerExamination s = .next s) ∧
       (s.raster.decoder = .header → 4 ≤ s.raster.fifo.length →
         exec .headerTaken s = .next { s with raster := { s.raster with decoder := .waitBank } }))) ∧
  (∀ (hi lo : Half) c s t u, s.sup.phase = .running → (∃ id, (s.bank id).state = .free) → 4 ≤ s.raster.fifo.length →
     (c = .headerTaken ∧ s.raster.decoder = .header) ∨ (c = .headerExamination ∧ s.raster.decoder = .waitBank) →
     s.pins.flush = false → s.raster.direction = .inbound → exec c s = .next t → t.raster.fifo.length < 64 →
     exec (.halfWordIn ⟨hi, true⟩) { t with raster := { t.raster with loneHalf := some lo } } = .next u →
     exec c { s with raster := { s.raster with fifo := s.raster.fifo ++ [hi ++ lo] } } =
       .next { u with raster := { u.raster with loneHalf := s.raster.loneHalf, strobed := s.raster.strobed } }) ∧
  (∀ (mark handle gen rows ignored : Half) (kind slot : Byte) (sum : Word) id s, s.sup.phase = .running →
     s.raster.fifo = [mark ++ kind ++ slot, handle ++ gen, rows ++ ignored, sum] →
     (s.isFreeBank id → ∀ c, (c = .headerTaken ∧ s.raster.decoder = .header) ∨ (c = .headerExamination ∧ s.raster.decoder = .waitBank) →
       (mark ≠ 0x6B2D → exec c s = .next (s.refusesRaster .discard .badMarker handle)) ∧
       (mark = 0x6B2D →
         (rows = 0 ∨ 1536 < rows.toNat → exec c s = .next (s.refusesRaster .discard .badRows handle)) ∧
         (rows ≠ 0 → rows.toNat ≤ 1536 →
           (kind ≠ 1 → kind ≠ 2 → kind ≠ 3 → exec c s = .next (s.refusesRaster .discard .badKind handle)) ∧
           (kind = 1 →
             (s.resolve handle = none → exec c s = .next (s.refusesRaster (.drain (rows.toNat * 64)) .wrongHandle handle)) ∧
             ∀ r, s.resolve handle = some r →
               (r.state ≠ .awaiting ∨ ¬ ((s.master r.slot).state = .opened ∨ (s.master r.slot).state = .closing) →
                 exec c s = .next (s.refusesRaster (.drain (rows.toNat * 64)) .wrongState handle)) ∧
               (r.state = .awaiting → (s.master r.slot).state = .opened ∨ (s.master r.slot).state = .closing →
                 ∀ n : Fin 1537, n.val = rows.toNat → exec c s =
                   .next { s.bindsRaster id (.record handle) n sum handle with
                     dir := s.dirWith r.entry (fun x => { x with state := .filling, bank := some id }) })))))) ∧
  (∀ (handle gen rows ignored : Half) (kind slot : Byte) (sum : Word) id (n : Fin 1537) s, s.sup.phase = .running →
     s.raster.fifo = [(0x6B2D : Half) ++ kind ++ slot, handle ++ gen, rows ++ ignored, sum] → rows ≠ 0 → n.val = rows.toNat →
     s.isFreeBank id → ∀ c, (c = .headerTaken ∧ s.raster.decoder = .header) ∨ (c = .headerExamination ∧ s.raster.decoder = .waitBank) →
     (kind = 2 ∨ kind = 3 → 5 < slot.toNat →
       exec c s = .next (s.refusesRaster (.drain (rows.toNat * 64)) .wrongState handle)) ∧
     ∀ sl : Slot, slot.toNat = sl.val →
       (kind = 2 →
         ((s.master sl).state ≠ .settled → (s.master sl).state ≠ .indexing →
           exec c s = .next (s.refusesRaster (.drain (rows.toNat * 64)) .wrongState handle)) ∧
         ((s.master sl).state = .settled ∨ (s.master sl).state = .indexing → ∀ f, (s.master sl).fields = some f →
           (f.format.indexParts ≤ handle.toNat ∨ f.cells[f.format.docCells + handle.toNat]? = some .exposedIndex ∨
               (∃ which, (s.bank which).binding = some (.index sl handle.toNat)) →
             exec c s = .next (s.refusesRaster (.drain (rows.toNat * 64)) .wrongState handle)) ∧
           (handle.toNat < f.format.indexParts → f.cells[f.format.docCells + handle.toNat]? ≠ some .exposedIndex →
             (∀ which, (s.bank which).binding ≠ some (.index sl handle.toNat)) →
             (gen ≠ (s.master sl).generation →
               exec c s = .next (s.refusesRaster (.drain (rows.toNat * 64)) .staleGeneration handle)) ∧
             (gen = (s.master sl).generation → exec c s =
               .next { s.bindsRaster id (.index sl handle.toNat) n sum handle with
                 masters := s.masters.set sl { s.master sl with
                   state := .indexing, fields := some { f with indexBindings := f.indexBindings + 1 } } })))) ∧
       (kind = 3 →
         ((s.master sl).state ≠ .indexed ∨ (∃ which, (s.bank which).binding = some (.title sl)) →
           exec c s = .next (s.refusesRaster (.drain (rows.toNat * 64)) .wrongState handle)) ∧
         ((s.master sl).state = .indexed → (∀ which, (s.bank which).binding ≠ some (.title sl)) →
           exec c s = .next (s.bindsRaster id (.title sl) n sum handle)))) ∧
  (∀ id bd (n : Fin 1537) sum handle row word (s : State), ((s.bindsRaster id bd n sum handle).bank id).shownWord row word =
     if row < n.val then some (Memory.read (s.bank id).words (row * 64 + word)) else none)

/-- R78, R80: the last data word of a fill is moved and the decoder returns to HEADER: with the header's sum the bank is LOADED at the queue's
tail and its record LOADED; with another the bank is freed, what it was bound to is released and RAS is set; an orphan is freed with no
comparison. R76, R91: rows of the bank from its row count on show dark. The last word of a drain is consumed. R71, R107, R85, R86: in the same
event the next header is taken if it stands in the FIFO, a job is taken if one can be, and a direction change or listing that has waited is made.
(The model's choice: FILL_END and DRAIN_COMPLETE move the last word, log entry 5.) -/
def Obligations.FillsAndDrainsEnd : Prop :=
  ∀ w rest s, s.sup.phase = .running → s.raster.fifo = w :: rest →
    (s.raster.decoder = .drain 1 → ∃ t', exec .drainComplete s = .next t' ∧
      ({ s with raster := { s.raster with fifo := rest, decoder := .header } } : State).thenGoesOn t') ∧
    ∀ f, s.raster.decoder = .fill f → f.count + 1 = f.rows.val * 64 → s.memoryConsistent →
      ∃ t t' u : State, exec .fillEnd s = .next t' ∧ t.thenGoesOn t' ∧
        (∀ a, Memory.read (u.bank f.bank).words a = if a = f.count then w else Memory.read (s.bank f.bank).words a) ∧
        (∀ row word, (u.bank f.bank).shownWord row word =
          if row < (s.bank f.bank).rows then
            some (if row * 64 + word = f.count then w else Memory.read (s.bank f.bank).words (row * 64 + word))
          else none) ∧
        u = { s with raster := { s.raster with fifo := rest, decoder := .header },
                     panel := s.panel.setBank f.bank { s.bank f.bank with words := (u.bank f.bank).words } } ∧
        ((s.bank f.bank).binding = none → u.freesBank t f.bank ∧ t = { u with panel := t.panel }) ∧
        ∀ bd, (s.bank f.bank).binding = some bd →
          (f.running + w = f.sum →
            t.panel = { u.panel.setBank f.bank { u.bank f.bank with state := .loaded } with queue := s.panel.queue ++ [f.bank] } ∧
            t = { u with panel := t.panel, dir := t.dir } ∧
            ((∀ h, bd ≠ .record h) → t.dir = s.dir) ∧
            (∀ h r, bd = .record h → s.resolve h = some r → t.dir = s.dirWith r.entry (fun x => { x with state := .loaded }))) ∧
          (f.running + w ≠ f.sum →
            u.freesBank t f.bank ∧ s.unbinds t bd ∧ t.sup = { s.sup with ras := true } ∧
            t.raster = { u.raster with faultReason := .sumMismatch, faultHandle := f.handle } ∧
            t = { u with panel := t.panel, dir := t.dir, masters := t.masters, sup := t.sup, raster := t.raster })

/-- R83, R89: a flush empties the FIFO and the assembler and returns the decoder to HEADER; a bound fill is abandoned, its bank freed, what it
was bound to released and RAS set with FLUSHED_MID_RASTER, an orphan fill frees its bank alone, and a listing in progress is abandoned. R85, R86:
a direction change that has waited is made in the same event, and a queued listing begins. -/
def Obligations.FlushEmptiesThePort : Prop :=
  ∀ s t, s.sup.phase = .running →
    t = { s with pins := { s.pins with attention := false, flush := true },
                 raster := { s.raster with fifo := [], loneHalf := none, decoder := .header } } →
    ∃ u u' : State, exec (.flush false) s = .next u' ∧ u.thenTurns u' ∧
      ((∀ f, s.raster.decoder ≠ .fill f) → s.raster.decoder ≠ .listing → u = t) ∧
      (s.raster.decoder = .listing → u = { t with raster := { t.raster with place := .empty, buffer := none, lowSent := false } }) ∧
      (∀ f, s.raster.decoder = .fill f → s.freesBank u f.bank ∧
        ((s.bank f.bank).binding = none → u = { t with panel := u.panel }) ∧
        (∀ bd, (s.bank f.bank).binding = some bd → s.unbinds u bd ∧
          u = { t with panel := u.panel, dir := u.dir, masters := u.masters, sup := { s.sup with ras := true },
                       raster := { t.raster with faultReason := .flushedMidRaster, faultHandle := f.handle } }))

/-- R84: while FLUSH is high, READY is low and STROBE is ignored in either direction; when it falls, READY follows the room in the FIFO inbound
and offers the next half-word outbound. A rise of ATTENTION while FLUSH is high, or of FLUSH while ATTENTION is high, begins a hard reset, and
the flush does not act. (DEDUCED by the model: the reset values stand as the reset begins, log entry 17.) -/
def Obligations.FlushHoldsThePort : Prop :=
  ∀ s, s.sup.phase = .running →
    (s.pins.flush = true → s.ready = false ∧ (∀ edge, exec (.halfWordIn edge) s = .next s) ∧ exec .halfWordOut s = .next s ∧
      ∀ ms, ∃ t, exec (.attention ms) s = .next t ∧ t.sup.phase = .heldByLines ∧
        t.atResetValues s.pins.strap s.pins.dir (fun sl => s.plates[sl].raw)) ∧
    (∃ t, exec (.flush true) s = .next t ∧ t.sup.phase = .heldByLines ∧ t.sup.ras = false ∧
      t.atResetValues s.pins.strap s.pins.dir (fun sl => s.plates[sl].raw)) ∧
    ∃ t, exec .flushFall s = .next t ∧ t = { s with pins := { s.pins with flush := false } } ∧
      (s.raster.direction = .inbound → t.ready = decide (s.raster.fifo.length < 64)) ∧
      (s.raster.direction = .outbound → t.ready = decide (s.raster.decoder = .listing ∧ s.raster.fifo ≠ []))

/-- R85, R89: a rise of DIR turns the port outbound at once at a clean boundary, and DIRECTION_OUTBOUND, as which a later event acts that
completes one, then; a queued listing begins in the same event (R86). A fall turns the port inbound at once and abandons a listing in progress.
R86, R87, R88, R195: a queued listing begins outbound in HEADER with a copy of the index list: 2 + 3n words, which go out through the FIFO low
half first; an edge of STROBE takes the offered half, READY falls, and with the last half the listing ends. (The model's choices:
DIRECTION_OUTBOUND and LISTING_BEGIN as commands of their own, log entry 4; they do nothing where there is no occasion, log entry 3; the words
loaded ahead, log entry 24.) -/
def Obligations.DirectionAndListings : Prop :=
  (∀ s, s.sup.phase = .running →
     (∀ c s0, (c = .dirRise ∧ s0 = { s with pins := { s.pins with dir := true } }) ∨ (c = .directionOutbound ∧ s0 = s) →
       (s0.pins.dir = true → s.raster.direction = .inbound → s.raster.decoder = .header → s.raster.fifo = [] → s.raster.loneHalf = none →
         ∃ t, exec c s = .next t ∧ ({ s0 with raster := { s.raster with direction := .outbound } } : State).thenLists t) ∧
       (s0.pins.dir = false ∨ s.raster.decoder ≠ .header ∨ s.raster.fifo ≠ [] ∨ s.raster.loneHalf ≠ none →
         s.raster.direction = .inbound → exec c s = .next s0) ∧
       (s.raster.direction = .outbound → ∃ t, exec c s = .next t ∧ s0.thenLists t)) ∧
     ((∀ sl, s.raster.place ≠ .queued sl) ∨ s.raster.direction = .inbound ∨ s.raster.decoder ≠ .header →
       exec .listingBegin s = .next s) ∧
     (s.raster.decoder ≠ .listing → exec .dirFall s =
       .next { s with pins := { s.pins with dir := false }, raster := { s.raster with direction := .inbound } }) ∧
     (s.raster.decoder = .listing → exec .dirFall s =
       .next { s with pins := { s.pins with dir := false },
                      raster := { s.raster with direction := .inbound, fifo := [], decoder := .header, place := .empty, buffer := none,
                                                lowSent := false } })) ∧
  ((∀ (sl : Slot) s, s.sup.phase = .running → s.raster.place = .queued sl → s.raster.direction = .outbound → s.raster.decoder = .header →
     ∃ t buf, exec .listingBegin s = .next t ∧ t.raster.buffer = some buf ∧ buf.slot = sl ∧ buf.generation = (s.master sl).generation ∧
       buf.entries = (s.recordsOf sl).map (fun r => { key := r.key, cell := r.cell, mark := r.state.mark }) ∧
       buf.words = [(0x6B2D : Half) ++ (4 : Byte) ++ BitVec.ofNat 8 sl.val,
           (s.master sl).generation ++ BitVec.ofNat 16 (s.recordsOf sl).length] ++
         (s.recordsOf sl).flatMap (fun r => [r.key.account.extractLsb' 8 32,
           r.key.account.extractLsb' 0 8 ++ r.key.cycle ++ r.key.page ++ BitVec.ofNat 8 r.cell, (0 : BitVec 24) ++ r.state.mark.code]) ∧
       buf.words.length = 2 + 3 * (s.recordsOf sl).length ∧ t.raster.fifo = buf.words.take 64 ∧ buf.loaded = t.raster.fifo.length ∧
       t = { s with raster := { s.raster with fifo := t.raster.fifo, decoder := .listing, place := .inProgress sl, lowSent := false,
                                              buffer := some buf } }) ∧
   (∀ w rest buf s, s.sup.phase = .running → s.raster.direction = .outbound → s.raster.decoder = .listing → s.pins.flush = false →
     s.raster.fifo = w :: rest → s.raster.buffer = some buf →
     (s.raster.lowSent = false → s.dataOut = some (w.extractLsb' 0 16) ∧
       exec .halfWordOut s = .next { s with raster := { s.raster with strobed := true, lowSent := true } }) ∧
     (s.raster.lowSent = true → s.dataOut = some (w.extractLsb' 16 16) ∧
       (∀ next, buf.words[buf.loaded]? = some next → exec .halfWordOut s =
         .next { s with raster := { s.raster with
          strobed := true, fifo := rest ++ [next], lowSent := false, buffer := some { buf with loaded := buf.loaded + 1 } } }) ∧
       (buf.words.length ≤ buf.loaded → rest ≠ [] → exec .halfWordOut s =
         .next { s with raster := { s.raster with strobed := true, fifo := rest, lowSent := false } }) ∧
       (buf.words.length ≤ buf.loaded → rest = [] → exec .halfWordOut s =
         .next { s with raster := { s.raster with
           strobed := true, fifo := [], decoder := .header, place := .empty, buffer := none, lowSent := false } }))))

/-! ## The exposure path -/

/-- R95, R96, R100, R105, R107, R108: an IDLE path with no calibration takes the job at the queue's head: its bank is SHOWN and selected with
PNL_SHOW owed, a record is IN_FLIGHT with its clamped flag, the move is asked for, the panel timer starts and the path is PREPARING. No other
path state, no calibration and no empty queue lets a job be taken. (The model's choice: JOB_TAKE as a command of its own, beside the events in
which a job is taken, log entry 4.) -/
def Obligations.JobsAreTaken : Prop :=
  ∀ s, s.sup.phase = .running →
    (s.seq.path ≠ .idle ∨ s.dose.calibration ≠ .none ∨ s.panel.queue = [] → exec .jobTake s = .next s) ∧
    ∀ id rest kind (sl : Slot) factor f, s.seq.path = .idle → s.dose.calibration = .none → s.panel.queue = id :: rest →
      (s.master sl).fields = some f →
      ((∃ h r, (s.bank id).binding = some (.record h) ∧ s.resolve h = some r ∧ kind = .document h r.cell ∧ sl = r.slot ∧
          factor = s.dose.classes[r.cls].toNat) ∨
        (∃ part, (s.bank id).binding = some (.index sl part) ∧ kind = .index part ∧ factor = 64) ∨
        ((s.bank id).binding = some (.title sl) ∧ kind = .title ∧ factor = 64)) →
      ∀ target, target = doseTarget s.dose.base[f.format.baseIndex].toNat factor s.dose.trims[sl].toNat →
      ∃ t, exec .jobTake s = .next t ∧
        t.seq = { s.seq with
          path := .preparing, panelTimer := true,
          job := some { bank := id, kind := kind, slot := sl, target := target, limitMs := exposureLimit target s.dose.rate.toNat,
                        fogLimit := fogLimit target, arrived := false, panelReady := false } } ∧
        t.panel = { s.panel.setBank id { s.bank id with state := .shown } with queue := rest, selected := some id, strobing := true } ∧
        ((∀ h cell, kind ≠ .document h cell) → t.dir = s.dir) ∧
        (∀ h r, (s.bank id).binding = some (.record h) → s.resolve h = some r →
          t.dir = s.dirWith r.entry (fun x => { x with
            state := .inFlight, retirePending := false,
            clamped := some (doseClamped s.dose.base[f.format.baseIndex].toNat factor s.dose.trims[sl].toNat) })) ∧
        (s.motion.port = .idle → t.motion = { s.motion with
          port := .sending, target := some (jobTarget f.format sl kind),
          message := some (moveMessage s.motion.turret (jobTarget f.format sl kind)) }) ∧
        (s.motion.port = .draining ∨ s.motion.port = .sending ∧ s.motion.abandoned = true →
          t.motion = { s.motion with pendingMove := some (jobTarget f.format sl kind) }) ∧
        t = { s with seq := t.seq, panel := t.panel, dir := t.dir, motion := t.motion }

/-- R131: the dose target of a job is computed from the base dose of its master's format, its class factor and its slot's trim, with one half
rounding up; below 16 it is raised to 16 with the clamped flag set, and every target lies between 16 and 520,192; the fog limit of the raised
target is 0. -/
def Obligations.DoseTargetsOfJobs : Prop :=
  (∀ B F G : Nat, B ≤ 65535 → F ≤ 255 → G ≤ 255 →
    16 ≤ doseTarget B F G ∧ doseTarget B F G ≤ 520192 ∧
    (16 ≤ (B * F * G + 4096) / 8192 → doseTarget B F G = (B * F * G + 4096) / 8192 ∧ doseClamped B F G = false) ∧
    ((B * F * G + 4096) / 8192 < 16 → doseTarget B F G = 16 ∧ doseClamped B F G = true)) ∧
  fogLimit 16 = 0 ∧
  ∀ s id rest (sl : Slot) factor f, s.sup.phase = .running → s.seq.path = .idle → s.dose.calibration = .none →
    s.panel.queue = id :: rest → (s.master sl).fields = some f →
    ((∃ h r, (s.bank id).binding = some (.record h) ∧ s.resolve h = some r ∧ sl = r.slot ∧ factor = s.dose.classes[r.cls].toNat) ∨
      ((∃ part, (s.bank id).binding = some (.index sl part)) ∧ factor = 64) ∨
      ((s.bank id).binding = some (.title sl) ∧ factor = 64)) →
    ∃ t j, exec .jobTake s = .next t ∧ t.seq.job = some j ∧
      j.target = doseTarget s.dose.base[f.format.baseIndex].toNat factor s.dose.trims[sl].toNat ∧ j.fogLimit = fogLimit j.target ∧
      ∀ h r, (s.bank id).binding = some (.record h) → s.resolve h = some r → ∀ x ∈ t.dir.keyTable, x.entry = r.entry →
        x.clamped = some (doseClamped s.dose.base[f.format.baseIndex].toNat factor s.dose.trims[sl].toNat)

/-- R133, R134, R136: the exposure limit, the fog limit and their ranges; the predicted time is the least one that reaches the target. -/
def Obligations.ExposureFigures : Prop :=
  (∀ T, exposureLimit T 0 = 4000) ∧
  (∀ T C p : Nat, 0 < C → T * 100 ≤ p * C → (∀ q, T * 100 ≤ q * C → p ≤ q) → exposureLimit T C = min 4000 (max 20 (2 * p))) ∧
  (∀ T C, 20 ≤ exposureLimit T C ∧ exposureLimit T C ≤ 4000) ∧
  (∀ T, fogLimit T = T / 64) ∧ (∀ T, T ≤ 520192 → fogLimit T ≤ 8128) ∧ (∀ T, T < 64 → fogLimit T = 0)

/-- R52, R53, R60, R61, R62, R64: the figures of each format by value; the position of every cell of every format in every slot, its range, and
that no two cells share one; the title position and the turret; and the fields of the move message, with the turret-change flag. -/
def Obligations.PositionsAndMessages : Prop :=
  (∀ (f : Format) (sl : Slot) n, n < f.cellCount →
    (cellTarget f sl n).x = sl.val * 32000 + f.originX + n % f.cols * f.pitchX ∧
    (cellTarget f sl n).y = f.originY + 2400 + n / f.cols * f.pitchY ∧
    400 ≤ (cellTarget f sl n).x ∧ (cellTarget f sl n).x ≤ 187760 ∧ 2700 ≤ (cellTarget f sl n).y ∧ (cellTarget f sl n).y ≤ 19200 ∧
    (∀ m, m < f.cellCount → cellTarget f sl m = cellTarget f sl n → m = n) ∧
    ∀ known, ∀ msg, msg = moveMessage known (cellTarget f sl n) →
      (msg.extractLsb' 24 24).toNat = (cellTarget f sl n).x ∧ (msg.extractLsb' 8 16).toNat = (cellTarget f sl n).y ∧
      msg.extractLsb' 4 4 = f.turret.number ∧ msg.getLsbD 3 = decide (known ≠ some f.turret) ∧ msg.extractLsb' 0 3 = 0) ∧
  (∀ (f : Format) (sl : Slot) h cell part,
    jobTarget f sl (.document h cell) = cellTarget f sl cell ∧ jobTarget f sl (.index part) = cellTarget f sl (f.docCells + part) ∧
    jobTarget f sl .title = { x := sl.val * 32000 + f.originX, y := f.originY, turret := f.turret }) ∧
  Format.g1.turret.number = 1 ∧ Format.g2.turret.number = 2 ∧ Format.g3.turret.number = 3 ∧
  (Format.g1.gridRows = 8 ∧ Format.g1.cols = 16 ∧ Format.g1.cellCount = 128 ∧ Format.g1.indexParts = 1 ∧ Format.g1.docCells = 127 ∧
    Format.g1.pitchX = 1800 ∧ Format.g1.pitchY = 2200 ∧ Format.g1.originX = 400 ∧ Format.g1.originY = 500) ∧
  (Format.g2.gridRows = 12 ∧ Format.g2.cols = 20 ∧ Format.g2.cellCount = 240 ∧ Format.g2.indexParts = 2 ∧ Format.g2.docCells = 238 ∧
    Format.g2.pitchX = 1440 ∧ Format.g2.pitchY = 1500 ∧ Format.g2.originX = 400 ∧ Format.g2.originY = 300) ∧
  (Format.g3.gridRows = 6 ∧ Format.g3.cols = 12 ∧ Format.g3.cellCount = 72 ∧ Format.g3.indexParts = 1 ∧ Format.g3.docCells = 71 ∧
    Format.g3.pitchX = 2400 ∧ Format.g3.pitchY = 2900 ∧ Format.g3.originX = 400 ∧ Format.g3.originY = 600) ∧
  (∀ f : Format, ∀ part, f.indexCell part = f.docCells + part)

/-- R100, R101, R110, R112: PNL_SHOW sets the awaiting flag; an edge of PANEL_READY with the flag set is noted in the job, and with the flag
clear ignored; the shutter opens once both reports are in and no gate runs, with the counter integrating from 0 and its timers running. (The
model's choices: SHUTTER_OPEN as a command of its own, log entry 4, and PNL_SHOW with no SHOW owed does nothing, log entry 3.) -/
def Obligations.PanelReadinessOpensTheShutter : Prop :=
  ∀ s, s.sup.phase = .running →
    (s.panel.strobing = true →
      exec .pnlShow s = .next { s with panel := { s.panel with strobing := false, awaiting := true, showRisen := true } }) ∧
    (s.panel.strobing = false → exec .pnlShow s = .next s) ∧
    (s.panel.awaiting = false → exec .panelReady s = .next s) ∧
    (s.seq.path ≠ .preparing → exec .shutterOpen s = .next s) ∧
    ∀ j, s.seq.path = .preparing → s.seq.job = some j → s.jobPlateGone j = false →
      ∀ opened, opened = { s.dose with counter := .integrating, count := 0, limitTimer := true, darkWindow := .running, openTimer := true } →
      (s.panel.awaiting = true →
        (j.arrived = false ∨ s.dose.gateRuns = true → exec .panelReady s =
          .next { s with panel := { s.panel with awaiting := false },
                         seq := { s.seq with job := some { j with panelReady := true }, panelTimer := false } }) ∧
        (j.arrived = true → s.dose.gateRuns = false → exec .panelReady s =
          .next { s with panel := { s.panel with awaiting := false }, dose := opened,
                         seq := { s.seq with path := .exposing, job := some { j with panelReady := true }, panelTimer := false } })) ∧
      (j.arrived = true → j.panelReady = true → s.dose.gateRuns = false →
        exec .shutterOpen s = .next { s with seq := { s.seq with path := .exposing }, dose := opened }) ∧
      (j.arrived = false ∨ j.panelReady = false ∨ s.dose.gateRuns = true → exec .shutterOpen s = .next s)

/-- R64 to R68: MOT_GO starts the move timer; IN_POSITION, MOTION_FAULT and the timer's expiry end a drain, after which a pending move is issued,
and are ignored in IDLE and SENDING; IN_POSITION in MOVING is noted in the job, and opens the shutter if the panel is ready and no gate runs.
R126: where the panel timer expires before the arrival is taken, the two events together leave what an expiry leaves that finds the port IDLE.
(The model's choices: MOT_GO outside SENDING and the expiry of a move timer that stands do nothing, log entry 3; between the expiry and the
arrival the port is DRAINING, log entry 29.) -/
def Obligations.TheMotionPortFollowsTheMove : Prop :=
  ∀ s, s.sup.phase = .running →
    (s.motion.port = .sending → exec .motGo s = .next { s with motion := { s.motion with
      port := if s.motion.abandoned then .draining else .moving, abandoned := false, moveTimer := true, message := none,
      goRisen := true } }) ∧
    (s.motion.port ≠ .sending → exec .motGo s = .next s) ∧
    (s.motion.port = .idle ∨ s.motion.port = .sending →
      exec .inPosition s = .next s ∧ exec .motionFault s = .next s ∧ exec .moveTimerExpiry s = .next s) ∧
    (s.motion.moveTimer = false → exec .moveTimerExpiry s = .next s) ∧
    (s.motion.port = .draining → ∀ c known,
      (c = .inPosition ∧ known = s.motion.target.map (fun m => m.turret)) ∨ (c = .motionFault ∧ known = none) ∨
        (c = .moveTimerExpiry ∧ s.motion.moveTimer = true ∧ known = none) →
      (s.motion.pendingMove = none → exec c s =
        .next { s with motion := { s.motion with port := .idle, target := none, moveTimer := false, turret := known } }) ∧
      (∀ m, s.motion.pendingMove = some m → exec c s =
        .next { s with motion := { s.motion with
          port := .sending, target := some m, moveTimer := false, turret := known, pendingMove := none,
          message := some (moveMessage known m) } })) ∧
    (∀ j motion, s.motion.port = .moving → s.seq.path = .preparing → s.seq.job = some j → s.jobPlateGone j = false →
      motion = { s.motion with port := .idle, target := none, moveTimer := false, turret := s.motion.target.map (fun m => m.turret) } →
      (j.panelReady = false ∨ s.dose.gateRuns = true →
        exec .inPosition s = .next { s with motion := motion, seq := { s.seq with job := some { j with arrived := true } } }) ∧
      (j.panelReady = true → s.dose.gateRuns = false → exec .inPosition s =
        .next { s with motion := motion, seq := { s.seq with path := .exposing, job := some { j with arrived := true } },
                       dose := { s.dose with counter := .integrating, count := 0, limitTimer := true, darkWindow := .running,
                                             openTimer := true } })) ∧
    (∀ j motion, s.motion.port = .moving → s.motion.pendingMove = none → s.seq.path = .preparing → s.seq.job = some j →
      s.seq.panelTimer = true →
      motion = { s.motion with port := .idle, target := none, moveTimer := false, turret := s.motion.target.map (fun m => m.turret) } →
      ∃ u v, exec .panelTimeout s = .next u ∧ u.motion = { s.motion with port := .draining } ∧ exec .inPosition u = .next v ∧
        v.motion = motion ∧ exec .panelTimeout { s with motion := motion } = .next v) ∧
    (s.motion.port = .idle → s.motion.abandon = s.motion) ∧
    (s.motion.port = .sending → s.motion.abandon = { s.motion with abandoned := true, pendingMove := none }) ∧
    (s.motion.port = .moving → s.motion.abandon = { s.motion with port := .draining }) ∧
    (s.motion.port = .draining → s.motion.abandon = { s.motion with pendingMove := none })

/-- R66, R67, R68, R102, R109, R111, R120, R125: a motion fault, a move timeout and the panel timeout end a job in PREPARING as returned with the
path FAULTED, and ATTENTION does so with the path HALTED; the SHOW and the move are abandoned. ATTENTION halts an IDLE path, and changes nothing
on a stopped one. R93: a header that waits for a bank is examined if one is freed. (The model's choice: PANEL_TIMEOUT with the panel timer
stopped does nothing, log entry 3.) -/
def Obligations.PreparationsAreEnded : Prop :=
  ∀ s, s.sup.phase = .running →
    (∀ ms, s.pins.flush = false →
      (s.seq.path = .idle → exec (.attention ms) s =
        .next { s with pins := { s.pins with attention := true }, seq := { s.seq with path := .halted } }) ∧
      (s.seq.path = .halted ∨ s.seq.path = .faulted →
        exec (.attention ms) s = .next { s with pins := { s.pins with attention := true } })) ∧
    (s.seq.panelTimer = false → exec .panelTimeout s = .next s) ∧
    ∀ j c path why motion pins, s.seq.path = .preparing → s.seq.job = some j → s.jobPlateGone j = false → s.streamFits →
      (c = .motionFault ∧ s.motion.port = .moving ∧ path = .faulted ∧ why = .motionFault ∧ pins = s.pins ∧
          motion = { s.motion with port := .idle, target := none, moveTimer := false, turret := none }) ∨
        (c = .moveTimerExpiry ∧ s.motion.port = .moving ∧ s.motion.moveTimer = true ∧ path = .faulted ∧ why = .motionTimeout ∧ pins = s.pins ∧
          motion = { s.motion with port := .idle, target := none, moveTimer := false, turret := none }) ∨
        (c = .panelTimeout ∧ s.seq.panelTimer = true ∧ path = .faulted ∧ why = .panelTimeout ∧ motion = s.motion.abandon ∧
          pins = s.pins) ∨
        (∃ ms, c = .attention ms ∧ s.pins.flush = false ∧ path = .halted ∧ why = .none ∧ motion = s.motion.abandon ∧
          pins = { s.pins with attention := true }) →
      ∃ t t', exec c s = .next t' ∧ t.thenExamines t' ∧
        t.seq = Sequencer.stopped path why ∧ t.motion = motion ∧ t.dose = s.dose ∧ s.returnedAs t j none ∧
        (∀ id, id ≠ j.bank → t.bank id = s.bank id) ∧
        t.panel.selected = s.panel.selected ∧ t.panel.awaiting = false ∧ t.panel.strobing = false ∧
        t.panel.showRisen = s.panel.showRisen ∧ ({ s with pins := pins } : State).pathChangesOnly t

/-- R130, R113, R115, R135, R136, R48, R13: an edge of PHOTO counts while integrating or gating; the edge that brings the count to T is the
normal end: the outcome exposed, the bank FREE, the lamp rate updated from 10 ms on, the path IDLE or, with halt-pending, HALTED. R93, R107: in
the same event a header that waits for a bank is examined, and the next job is taken if one can be. (The model's choices: PHOTO_PULSE and
COUNT_REACHES_T are the same edge, log entry 10; COUNT_REACHES_T short of T does nothing, log entry 3; the open time is an operand, log entry 11;
the exposure of an index part or a title changes the state of an INDEXING or INDEXED master alone, log entry 27.) -/
def Obligations.PulsesAreCountedToTheTarget : Prop :=
  ∀ (ms : OpenMs) s, s.sup.phase = .running →
    (s.dose.counter = .idle → exec (.photoPulse ms) s = .next s) ∧
    (s.dose.counter = .gating → exec (.photoPulse ms) s = .next { s with dose := { s.dose with count := s.dose.count + 1 } }) ∧
    ∀ j, s.dose.counter = .integrating → s.seq.path = .exposing → s.seq.job = some j →
      (s.dose.count + 1 < j.target →
        exec (.photoPulse ms) s = .next { s with dose := { s.dose with count := s.dose.count + 1, darkWindow := .spent } } ∧
        exec (.countReachesT ms) s = .next s) ∧
      (j.target ≤ s.dose.count + 1 → s.jobPlateGone j = false → s.streamFits →
        ∀ c, c = .photoPulse ms ∨ c = .countReachesT ms →
        ∃ t u v, exec c s = .next v ∧ t.thenExamines u ∧ u.thenTakes v ∧
          t.seq = Sequencer.stopped (if s.seq.haltPending then .halted else .idle) .none ∧ s.exposedAs t j ms.val ∧
          ({ s.dose with count := s.dose.count + 1 } : DoseUnit).closesTo t.dose ∧
          t.dose.rate = (if 10 ≤ ms.val then BitVec.ofNat 16 (min 65535 (j.target * 100 / ms.val)) else s.dose.rate) ∧
          t.motion = s.motion ∧ s.pathChangesOnly t)

/-- R113, R114, R116, R117, R118, R48, R97: an exposure that ends short of its target by the limit, by the lamp-dark window or by ATTENTION is
spoiled if its count is at least the fog limit and at least 1, and returned otherwise; a counted exposure leaves its open time. A spoiled index
part or title fails its master (R14). R93: a header that waits for a bank is examined if one is freed. (The model's choices: the open time is an
operand, log entry 11; LIMIT_EXPIRY and LAMP_DARK_EXPIRY with their timers stopped do nothing, log entry 3.) -/
def Obligations.ShortExposuresAreJudged : Prop :=
  ∀ s j, s.sup.phase = .running → s.seq.path = .exposing → s.seq.job = some j → s.jobPlateGone j = false → s.streamFits →
    (∀ c ms spoiledPath spoiledWhy returnedPath returnedWhy,
      (c = .limitExpiry ∧ s.dose.limitTimer = true ∧ ms = j.limitMs ∧ spoiledPath = .faulted ∧ spoiledWhy = .underdose ∧
          returnedPath = .faulted ∧ returnedWhy = .lampLow) ∨
        (∃ openMs, c = .attention openMs ∧ s.pins.flush = false ∧ ms = openMs.val ∧ spoiledPath = .halted ∧ spoiledWhy = .none ∧
          returnedPath = .halted ∧ returnedWhy = .none) →
      ∃ t t', exec c s = .next t' ∧ t.thenExamines t' ∧
        ({ s with pins := if c = .limitExpiry then s.pins else { s.pins with attention := true } } : State).pathChangesOnly t ∧
        s.dose.closesTo t.dose ∧ t.dose.rate = s.dose.rate ∧ t.motion = s.motion ∧ t.panel.showRisen = s.panel.showRisen ∧
        t.panel.selected = s.panel.selected ∧ t.panel.awaiting = s.panel.awaiting ∧ t.panel.strobing = s.panel.strobing ∧
        (j.fogLimit ≤ s.dose.count ∧ 1 ≤ s.dose.count →
          t.seq = Sequencer.stopped spoiledPath spoiledWhy ∧
          (∀ h cell, j.kind = .document h cell → s.spoiledAs t j.bank h ms) ∧
          (∀ part, j.kind = .index part → (s.master j.slot).state.live = true →
            s.spoilsMaster t j (fun f m => m.set (f.docCells + part) .void) .indexSpoiled) ∧
          (j.kind = .title → (s.master j.slot).state.live = true → s.spoilsMaster t j (fun _ m => m) .titleSpoiled)) ∧
        (s.dose.count < j.fogLimit ∨ s.dose.count = 0 →
          t.seq = Sequencer.stopped returnedPath returnedWhy ∧ s.returnedAs t j (if 1 ≤ s.dose.count then some ms else none) ∧
          ∀ id, id ≠ j.bank → t.bank id = s.bank id)) ∧
    (s.dose.darkWindow = .running → s.dose.count = 0 → ∃ t t', exec .lampDarkExpiry s = .next t' ∧ t.thenExamines t' ∧
      t.seq = Sequencer.stopped .faulted .lampDark ∧ s.returnedAs t j none ∧ (∀ id, id ≠ j.bank → t.bank id = s.bank id) ∧
      s.dose.closesTo t.dose ∧ t.dose.rate = s.dose.rate ∧ t.motion = s.motion ∧ s.pathChangesOnly t ∧
      t.panel.showRisen = s.panel.showRisen ∧ t.panel.selected = s.panel.selected ∧ t.panel.awaiting = s.panel.awaiting ∧
      t.panel.strobing = s.panel.strobing) ∧
    (s.dose.darkWindow ≠ .running → exec .lampDarkExpiry s = .next s) ∧
    (s.dose.limitTimer = false → exec .limitExpiry s = .next s)

/-- R139, R142, R143, R107, R110: a gate's end gives the lamp rate, and with its flag the reference, the count up to 65,535, applies a held duty
and releases the shutter of a job that waits, or lets the next job be taken in the same event; a period of LAMP_PWM begins with the duty in
force. (The model's choice: GATE_END with no gate running does nothing, log entry 3.) -/
def Obligations.GatesAndLampPeriodsEnd : Prop :=
  ∀ s, s.sup.phase = .running →
    exec .pwmPeriodStart s = .next { s with dose := { s.dose with pwmHigh := s.dose.duty } } ∧
    ((∀ f, s.dose.calibration ≠ .running f) → exec .gateEnd s = .next s) ∧
    ∀ f rate dose, s.dose.calibration = .running f → rate = BitVec.ofNat 16 (min 65535 s.dose.count) →
      dose = { s.dose with counter := .idle, rate := rate, reference := if f then rate else s.dose.reference, calibration := .none,
                           gateTimer := false, duty := s.dose.heldDuty.getD s.dose.duty, heldDuty := none } →
      ((∀ j, s.seq.path = .preparing → s.seq.job = some j → j.arrived = false ∨ j.panelReady = false) →
        ∃ t, exec .gateEnd s = .next t ∧ ({ s with dose := dose } : State).thenTakes t) ∧
      (∀ j, s.seq.path = .preparing → s.seq.job = some j → j.arrived = true → j.panelReady = true → s.jobPlateGone j = false →
        exec .gateEnd s = .next { s with
          seq := { s.seq with path := .exposing }
          dose := { dose with counter := .integrating, count := 0, limitTimer := true, darkWindow := .running, openTimer := true } })

/-! ## Flags -/

/-- R27, R106, R137, R192, R196, R197: the live flags, the ALERT line, the status byte and the SHUTTER output of a part out of reset. R63, R64,
R69, R70, R84, R88, R99, R100, R142, R165: the levels of PNL_SEL, PNL_SHOW, MOT_GO, MOT_CLK, MOT_DAT, READY (low from an edge of STROBE that
takes a half-word until it rises again), LAMP_PWM (high for the duty of its period) and of LINK as this writer drives it: the bits of a message
and of a tail go out most significant first, a 0 with 7 µs and a 1 with 3 µs of dominant. (DEDUCED by the model: MOT_CLK and MOT_DAT rest low
between messages, log entry 23. The model's choice: READY in the course of a STROBE's event, log entry 30.) -/
def Obligations.FlagsFollowTheState : Prop :=
  ∀ s : State, s.sup.phase = .running →
    (s.dlo = true ↔ s.dir.freeList.length < 32) ∧
    (s.hlt = true ↔ s.seq.path = .halted ∨ s.seq.path = .faulted) ∧ (s.flt = true ↔ s.seq.path = .faulted) ∧
    (s.lmp = true ↔ 0 < s.dose.reference.toNat ∧ s.dose.rate.toNat * 8 < s.dose.reference.toNat * 5) ∧
    (s.alert = true ↔ s.sup.lnk = true ∨ s.sup.ras = true ∨ s.sup.cls = true ∨ s.sup.plt = true ∨ s.seq.path = .faulted) ∧
    (s.shutter = true ↔ s.seq.path = .exposing) ∧
    s.statusByte.getLsbD 7 = s.sup.lnk ∧ s.statusByte.getLsbD 6 = s.sup.ras ∧ s.statusByte.getLsbD 5 = s.sup.cls ∧
    s.statusByte.getLsbD 4 = s.sup.plt ∧ s.statusByte.getLsbD 3 = s.hlt ∧ s.statusByte.getLsbD 2 = s.flt ∧
    s.statusByte.getLsbD 1 = s.lmp ∧ s.statusByte.getLsbD 0 = s.dlo ∧
    (s.pnlSel = true ↔ s.panel.selected = some .b) ∧ (∀ us, s.pnlShow us = true ↔ s.panel.showRisen = true ∧ us < 2) ∧
    (∀ us, s.motGo us = true ↔ s.motion.goRisen = true ∧ us < 10) ∧
    (∀ risen, s.motClk risen = true ↔ s.motion.message.isSome = true ∧ risen = true) ∧
    (∀ n : Fin 48, s.motDat n = true ↔ ∃ m, s.motion.message = some m ∧ m.getLsbD (47 - n.val) = true) ∧
    (s.ready = true ↔ s.pins.flush = false ∧ (s.raster.direction = .inbound ∧ s.raster.fifo.length < 64 ∨
      s.raster.direction = .outbound ∧ s.raster.decoder = .listing ∧ s.raster.fifo ≠ [])) ∧
    (∀ risen, s.readyAt risen = true ↔ s.ready = true ∧ (risen = true ∨ s.raster.strobed = false)) ∧
    (∀ us, s.lampPwm us = true ↔ us < s.dose.pwmHigh.toNat) ∧
    (∀ n us, s.pullsLink n us = true ↔ s.link.iface = .answer ∧ ∃ t, s.link.tail = some t ∧ t.cut = false ∧
      ∃ b, (t.bytes.sent)[n / 8]? = some b ∧ us < (if b.getLsbD (7 - n % 8) then 3 else 7))

/-- R191, R196, R198: no command clears a latched flag, but for a hard reset, and while a clearing STATUS is being answered. -/
def Obligations.LatchedFlagsStayUntilCleared : Prop :=
  ∀ c s t, exec c s = .next t → s.sup.phase = .running → t.sup.phase = .running →
    (∀ p, s.answer = some p → p.clearing = false) →
    (s.sup.lnk = true → t.sup.lnk = true) ∧ (s.sup.ras = true → t.sup.ras = true) ∧ (s.sup.cls = true → t.sup.cls = true) ∧
    (s.sup.plt = true → t.sup.plt = true)

/-! ## What every step keeps -/

/-- R23, R24, R25, R26, R28: every step keeps each directory entry either on the free list or in the key table, once, and the key table in key
order. -/
def Obligations.StepKeepsTheDirectory : Prop := ∀ s t, s.dir.consistent → step s = .next t → t.dir.consistent

/-- R2, R3, R17: every step keeps each master's fields, map size, failure reason, plate and place in the release queue in agreement with its
state. -/
def Obligations.StepKeepsTheMasters : Prop := ∀ s t, s.mastersConsistent → step s = .next t → t.mastersConsistent

/-- R91, R92, R95, R96, R105, R106: every step keeps the form of the panel memories, with every address inside its bank, and each bank's state in
agreement with its binding, the loaded-job queue, the decoder and the job. -/
def Obligations.StepKeepsTheBanks : Prop :=
  ∀ s t, step s = .next t → (s.memoryConsistent → t.memoryConsistent) ∧ (s.panelConsistent → t.panelConsistent)

/-- R70, R71, R72, R77, R80, R85, R88: every step keeps the FIFO within 64 words and in agreement with the decoder, and the listing place and the
direction with both. (The model's choice, unsafe: how many words stand in the FIFO during a fill or a drain, log entry 5.) -/
def Obligations.StepKeepsThePort : Prop := ∀ s t, s.portConsistent → step s = .next t → t.portConsistent

/-- R105, R106, R109, R112, R129, R130, R143, R63 to R68: every step keeps the job, the timers, the counter, the awaiting flag and the motion
port in agreement with the path state; the shutter is open only with both readiness reports in, and the count below the target. -/
def Obligations.StepKeepsThePath : Prop :=
  ∀ s t, s.pathConsistent → s.motionConsistent → step s = .next t → t.pathConsistent ∧ t.motionConsistent

/-- R164, R174, R177, R181, R185: every step keeps the tail and the pending answer in agreement with the interface state, and OFF with node 0. -/
def Obligations.StepKeepsTheLink : Prop := ∀ s t, s.linkConsistent → step s = .next t → t.linkConsistent

/-- R3, R13, R22, R29, R57, R92, R105: every step keeps records, cell maps, banks and the job in agreement: a record has its cell in its master's
range, its cell's state goes with its own, its bank is bound to it, and no two records share a cell. -/
def Obligations.StepKeepsTheFilm : Prop := ∀ s t, s.filmConsistent → step s = .next t → t.filmConsistent

/-- What every step keeps holds of State.reset. -/
def Obligations.ResetIsConsistent : Prop :=
  State.reset.memoryConsistent ∧ State.reset.dir.consistent ∧ State.reset.mastersConsistent ∧ State.reset.panelConsistent ∧
    State.reset.portConsistent ∧ State.reset.pathConsistent ∧ State.reset.motionConsistent ∧ State.reset.linkConsistent ∧
    State.reset.filmConsistent
end

