-- ==== Sys2Proof/Laws/Memory.lean ====
section
/-! SUPPORT. The laws of bank memory: a read gives the last word written, a write leaves every other address alone, and every write keeps the
canonical form. -/

namespace Sys2Proof.Machine

/-- A read of the address just written gives the word. -/
theorem Memory.read_write_same (m : List BankCell) (a : Nat) (w : Word) (h : m.Pairwise (fun p q => p.1 < q.1)) :
    Memory.read (Memory.write m a w) a = w := by
  induction m with
  | nil => simp only [Memory.write]; split <;> simp_all [Memory.read]
  | cons p rest ih =>
    obtain ⟨b, v⟩ := p
    have hr := (List.pairwise_cons.mp h).1
    have out : ∀ l : List BankCell, (∀ q ∈ l, a < q.1) → Memory.read l a = Config.unlistedWord := by
      intro l hl
      induction l with
      | nil => rfl
      | cons q l ih' =>
        obtain ⟨c, u⟩ := q
        have hq := hl (c, u) (by simp)
        have ha : a ≠ c := by simp at hq; omega
        simp only [Memory.read, if_neg ha]
        exact ih' (fun q hq => hl q (by simp [hq]))
    simp only [Memory.write]
    split
    · rename_i hab
      split
      · rename_i hw
        rw [hw]; apply out
        intro q hq
        rcases List.mem_cons.mp hq with rfl | hq
        · exact hab
        · exact lt_trans hab (hr q hq)
      · simp [Memory.read]
    · split
      · rename_i hab
        split
        · rename_i hw
          rw [hw]; apply out
          intro q hq; rw [hab]; exact hr q hq
        · simp [Memory.read]
      · rename_i hlt hne
        simp only [Memory.read, if_neg hne]
        exact ih (List.pairwise_cons.mp h).2

/-- A write leaves the word of every other address. -/
theorem Memory.read_write_other (m : List BankCell) (a b : Nat) (w : Word) (hab : b ≠ a)
    (h : m.Pairwise (fun p q => p.1 < q.1)) : Memory.read (Memory.write m a w) b = Memory.read m b := by
  induction m with
  | nil => simp only [Memory.write]; split <;> simp [Memory.read, hab]
  | cons p rest ih =>
    obtain ⟨c, v⟩ := p
    simp only [Memory.write]
    split
    · split <;> simp [Memory.read, hab]
    · split
      · rename_i hac
        have hbc : b ≠ c := hac ▸ hab
        split <;> simp [Memory.read, hab, hbc]
      · simp only [Memory.read]
        split
        · rfl
        · exact ih (List.pairwise_cons.mp h).2

/-- Every address a write can leave listed was listed before or is the one written. -/
theorem Memory.mem_write (m : List BankCell) (a : Nat) (w : Word) (p : BankCell) (hp : p ∈ Memory.write m a w) :
    p ∈ m ∨ p = (a, w) ∧ w ≠ Config.unlistedWord := by
  induction m with
  | nil => simp only [Memory.write] at hp; split at hp <;> simp_all
  | cons q rest ih =>
    obtain ⟨c, v⟩ := q
    simp only [Memory.write] at hp
    split at hp
    · split at hp
      · exact .inl hp
      · rcases List.mem_cons.mp hp with rfl | hp
        · exact .inr ⟨rfl, ‹_›⟩
        · exact .inl hp
    · split at hp
      · split at hp
        · exact .inl (List.mem_cons_of_mem _ hp)
        · rcases List.mem_cons.mp hp with rfl | hp
          · exact .inr ⟨rfl, ‹_›⟩
          · exact .inl (List.mem_cons_of_mem _ hp)
      · rcases List.mem_cons.mp hp with rfl | hp
        · exact .inl (by simp)
        · rcases ih hp with h | h
          · exact .inl (List.mem_cons_of_mem _ h)
          · exact .inr h

/-- A write inside the bank keeps the canonical form. -/
theorem Memory.write_wf (m : List BankCell) (a : Nat) (w : Word) (ha : a < Config.bankWords) (h : Memory.wf m) :
    Memory.wf (Memory.write m a w) := by
  obtain ⟨hs, hb⟩ := h
  refine ⟨?_, ?_⟩
  · clear hb
    induction m with
    | nil => simp only [Memory.write]; split <;> simp
    | cons q rest ih =>
      obtain ⟨c, v⟩ := q
      obtain ⟨hr, hs'⟩ := List.pairwise_cons.mp hs
      simp only [Memory.write]
      split
      · rename_i hac
        split
        · exact hs
        · refine List.pairwise_cons.mpr ⟨?_, hs⟩
          intro p hp
          rcases List.mem_cons.mp hp with rfl | hp
          · exact hac
          · exact lt_trans hac (hr p hp)
      · split
        · rename_i hac
          split
          · exact hs'
          · refine List.pairwise_cons.mpr ⟨?_, hs'⟩
            intro p hp; rw [hac]; exact hr p hp
        · refine List.pairwise_cons.mpr ⟨?_, ih hs'⟩
          intro p hp
          rcases Memory.mem_write rest a w p hp with hp | ⟨rfl, -⟩
          · exact hr p hp
          · simp only; omega
  · intro p hp
    rcases Memory.mem_write m a w p hp with hp | ⟨rfl, hw⟩
    · exact hb p hp
    · exact ⟨ha, hw⟩

/-- The empty memory has the form. -/
theorem Memory.wf_nil : Memory.wf [] := by simp [Memory.wf]

/-- What a move of words into a bank keeps: the canonical form, for a fill of a bank. -/
theorem moveData_wf (l : List Word) (f : Fill) (m : List BankCell) (hm : Memory.wf m) : Memory.wf (moveData f m l).2.1 := by
  induction l generalizing f m with
  | nil => exact hm
  | cons w rest ih =>
    simp only [moveData]
    split
    · rename_i hlt
      refine ih _ _ (Memory.write_wf m f.count w ?_ hm)
      have hrows := f.rows.isLt
      simp only [Fill.words, Config.rowWords] at hlt
      simp only [Config.bankWords]
      omega
    · exact hm

/-- What a move of words does: it keeps the fill's bank and header, and moves no more than all but the last word. -/
theorem moveData_fill (l : List Word) (f : Fill) (m : List BankCell) :
    (moveData f m l).1.bank = f.bank ∧ (moveData f m l).1.rows = f.rows ∧ (moveData f m l).1.sum = f.sum ∧
      (moveData f m l).1.handle = f.handle ∧ (f.count < f.words → (moveData f m l).1.count < f.words) ∧
      (f.count < f.words → (moveData f m l).2.2 ≠ [] → (moveData f m l).1.count + 1 = f.words) := by
  induction l generalizing f m with
  | nil => simp [moveData]
  | cons w rest ih =>
    simp only [moveData]
    split
    · rename_i hlt
      obtain ⟨h1, h2, h3, h4, h5, h6⟩ := ih (f.move w) (Memory.write m f.count w)
      exact ⟨h1, h2, h3, h4, fun _ => h5 hlt, fun _ hne => h6 hlt hne⟩
    · exact ⟨rfl, rfl, rfl, rfl, id, fun h _ => by simp only; omega⟩

/-- The memory right after reset has the form. -/
theorem reset_memoryConsistent : State.reset.memoryConsistent := ⟨Memory.wf_nil, Memory.wf_nil⟩

end Sys2Proof.Machine
end

