-- ==== Sys2Proof/Laws/State.lean ====
section
/-! SUPPORT. The small lemmas of state updates: what each named update leaves as it was, field by field.

A plain record update has one lemma for each field; an operation that decides has one lemma for all the fields it keeps. -/

namespace Sys2Proof.Machine

@[simp] theorem State.setMaster_pending (s : State) (sl : Slot) (m : Master) : (s.setMaster sl m).pending = s.pending := rfl
@[simp] theorem State.setMaster_pins (s : State) (sl : Slot) (m : Master) : (s.setMaster sl m).pins = s.pins := rfl
@[simp] theorem State.setMaster_sup (s : State) (sl : Slot) (m : Master) : (s.setMaster sl m).sup = s.sup := rfl
@[simp] theorem State.setMaster_plates (s : State) (sl : Slot) (m : Master) : (s.setMaster sl m).plates = s.plates := rfl
@[simp] theorem State.setMaster_releaseQueue (s : State) (sl : Slot) (m : Master) : (s.setMaster sl m).releaseQueue = s.releaseQueue := rfl
@[simp] theorem State.setMaster_removalReports (s : State) (sl : Slot) (m : Master) : (s.setMaster sl m).removalReports = s.removalReports := rfl
@[simp] theorem State.setMaster_dir (s : State) (sl : Slot) (m : Master) : (s.setMaster sl m).dir = s.dir := rfl
@[simp] theorem State.setMaster_raster (s : State) (sl : Slot) (m : Master) : (s.setMaster sl m).raster = s.raster := rfl
@[simp] theorem State.setMaster_panel (s : State) (sl : Slot) (m : Master) : (s.setMaster sl m).panel = s.panel := rfl
@[simp] theorem State.setMaster_seq (s : State) (sl : Slot) (m : Master) : (s.setMaster sl m).seq = s.seq := rfl
@[simp] theorem State.setMaster_motion (s : State) (sl : Slot) (m : Master) : (s.setMaster sl m).motion = s.motion := rfl
@[simp] theorem State.setMaster_dose (s : State) (sl : Slot) (m : Master) : (s.setMaster sl m).dose = s.dose := rfl
@[simp] theorem State.setMaster_link (s : State) (sl : Slot) (m : Master) : (s.setMaster sl m).link = s.link := rfl
@[simp] theorem State.setMaster_answer (s : State) (sl : Slot) (m : Master) : (s.setMaster sl m).answer = s.answer := rfl

@[simp] theorem State.mapMaster_pending (s : State) (sl : Slot) (f : Master → Master) : (s.mapMaster sl f).pending = s.pending := rfl
@[simp] theorem State.mapMaster_pins (s : State) (sl : Slot) (f : Master → Master) : (s.mapMaster sl f).pins = s.pins := rfl
@[simp] theorem State.mapMaster_sup (s : State) (sl : Slot) (f : Master → Master) : (s.mapMaster sl f).sup = s.sup := rfl
@[simp] theorem State.mapMaster_plates (s : State) (sl : Slot) (f : Master → Master) : (s.mapMaster sl f).plates = s.plates := rfl
@[simp] theorem State.mapMaster_releaseQueue (s : State) (sl : Slot) (f : Master → Master) : (s.mapMaster sl f).releaseQueue = s.releaseQueue := rfl
@[simp] theorem State.mapMaster_removalReports (s : State) (sl : Slot) (f : Master → Master) : (s.mapMaster sl f).removalReports = s.removalReports := rfl
@[simp] theorem State.mapMaster_dir (s : State) (sl : Slot) (f : Master → Master) : (s.mapMaster sl f).dir = s.dir := rfl
@[simp] theorem State.mapMaster_raster (s : State) (sl : Slot) (f : Master → Master) : (s.mapMaster sl f).raster = s.raster := rfl
@[simp] theorem State.mapMaster_panel (s : State) (sl : Slot) (f : Master → Master) : (s.mapMaster sl f).panel = s.panel := rfl
@[simp] theorem State.mapMaster_seq (s : State) (sl : Slot) (f : Master → Master) : (s.mapMaster sl f).seq = s.seq := rfl
@[simp] theorem State.mapMaster_motion (s : State) (sl : Slot) (f : Master → Master) : (s.mapMaster sl f).motion = s.motion := rfl
@[simp] theorem State.mapMaster_dose (s : State) (sl : Slot) (f : Master → Master) : (s.mapMaster sl f).dose = s.dose := rfl
@[simp] theorem State.mapMaster_link (s : State) (sl : Slot) (f : Master → Master) : (s.mapMaster sl f).link = s.link := rfl
@[simp] theorem State.mapMaster_answer (s : State) (sl : Slot) (f : Master → Master) : (s.mapMaster sl f).answer = s.answer := rfl

@[simp] theorem State.setBank_pending (s : State) (id : BankId) (b : Bank) : (s.setBank id b).pending = s.pending := rfl
@[simp] theorem State.setBank_pins (s : State) (id : BankId) (b : Bank) : (s.setBank id b).pins = s.pins := rfl
@[simp] theorem State.setBank_sup (s : State) (id : BankId) (b : Bank) : (s.setBank id b).sup = s.sup := rfl
@[simp] theorem State.setBank_plates (s : State) (id : BankId) (b : Bank) : (s.setBank id b).plates = s.plates := rfl
@[simp] theorem State.setBank_masters (s : State) (id : BankId) (b : Bank) : (s.setBank id b).masters = s.masters := rfl
@[simp] theorem State.setBank_releaseQueue (s : State) (id : BankId) (b : Bank) : (s.setBank id b).releaseQueue = s.releaseQueue := rfl
@[simp] theorem State.setBank_removalReports (s : State) (id : BankId) (b : Bank) : (s.setBank id b).removalReports = s.removalReports := rfl
@[simp] theorem State.setBank_dir (s : State) (id : BankId) (b : Bank) : (s.setBank id b).dir = s.dir := rfl
@[simp] theorem State.setBank_raster (s : State) (id : BankId) (b : Bank) : (s.setBank id b).raster = s.raster := rfl
@[simp] theorem State.setBank_seq (s : State) (id : BankId) (b : Bank) : (s.setBank id b).seq = s.seq := rfl
@[simp] theorem State.setBank_motion (s : State) (id : BankId) (b : Bank) : (s.setBank id b).motion = s.motion := rfl
@[simp] theorem State.setBank_dose (s : State) (id : BankId) (b : Bank) : (s.setBank id b).dose = s.dose := rfl
@[simp] theorem State.setBank_link (s : State) (id : BankId) (b : Bank) : (s.setBank id b).link = s.link := rfl
@[simp] theorem State.setBank_answer (s : State) (id : BankId) (b : Bank) : (s.setBank id b).answer = s.answer := rfl

@[simp] theorem State.setKeyTable_pending (s : State) (t : List Record) : (s.setKeyTable t).pending = s.pending := rfl
@[simp] theorem State.setKeyTable_pins (s : State) (t : List Record) : (s.setKeyTable t).pins = s.pins := rfl
@[simp] theorem State.setKeyTable_sup (s : State) (t : List Record) : (s.setKeyTable t).sup = s.sup := rfl
@[simp] theorem State.setKeyTable_plates (s : State) (t : List Record) : (s.setKeyTable t).plates = s.plates := rfl
@[simp] theorem State.setKeyTable_masters (s : State) (t : List Record) : (s.setKeyTable t).masters = s.masters := rfl
@[simp] theorem State.setKeyTable_releaseQueue (s : State) (t : List Record) : (s.setKeyTable t).releaseQueue = s.releaseQueue := rfl
@[simp] theorem State.setKeyTable_removalReports (s : State) (t : List Record) : (s.setKeyTable t).removalReports = s.removalReports := rfl
@[simp] theorem State.setKeyTable_raster (s : State) (t : List Record) : (s.setKeyTable t).raster = s.raster := rfl
@[simp] theorem State.setKeyTable_panel (s : State) (t : List Record) : (s.setKeyTable t).panel = s.panel := rfl
@[simp] theorem State.setKeyTable_seq (s : State) (t : List Record) : (s.setKeyTable t).seq = s.seq := rfl
@[simp] theorem State.setKeyTable_motion (s : State) (t : List Record) : (s.setKeyTable t).motion = s.motion := rfl
@[simp] theorem State.setKeyTable_dose (s : State) (t : List Record) : (s.setKeyTable t).dose = s.dose := rfl
@[simp] theorem State.setKeyTable_link (s : State) (t : List Record) : (s.setKeyTable t).link = s.link := rfl
@[simp] theorem State.setKeyTable_answer (s : State) (t : List Record) : (s.setKeyTable t).answer = s.answer := rfl

@[simp] theorem State.mapRecord_pending (s : State) (e : Entry) (f : Record → Record) : (s.mapRecord e f).pending = s.pending := rfl
@[simp] theorem State.mapRecord_pins (s : State) (e : Entry) (f : Record → Record) : (s.mapRecord e f).pins = s.pins := rfl
@[simp] theorem State.mapRecord_sup (s : State) (e : Entry) (f : Record → Record) : (s.mapRecord e f).sup = s.sup := rfl
@[simp] theorem State.mapRecord_plates (s : State) (e : Entry) (f : Record → Record) : (s.mapRecord e f).plates = s.plates := rfl
@[simp] theorem State.mapRecord_masters (s : State) (e : Entry) (f : Record → Record) : (s.mapRecord e f).masters = s.masters := rfl
@[simp] theorem State.mapRecord_releaseQueue (s : State) (e : Entry) (f : Record → Record) : (s.mapRecord e f).releaseQueue = s.releaseQueue := rfl
@[simp] theorem State.mapRecord_removalReports (s : State) (e : Entry) (f : Record → Record) : (s.mapRecord e f).removalReports = s.removalReports := rfl
@[simp] theorem State.mapRecord_raster (s : State) (e : Entry) (f : Record → Record) : (s.mapRecord e f).raster = s.raster := rfl
@[simp] theorem State.mapRecord_panel (s : State) (e : Entry) (f : Record → Record) : (s.mapRecord e f).panel = s.panel := rfl
@[simp] theorem State.mapRecord_seq (s : State) (e : Entry) (f : Record → Record) : (s.mapRecord e f).seq = s.seq := rfl
@[simp] theorem State.mapRecord_motion (s : State) (e : Entry) (f : Record → Record) : (s.mapRecord e f).motion = s.motion := rfl
@[simp] theorem State.mapRecord_dose (s : State) (e : Entry) (f : Record → Record) : (s.mapRecord e f).dose = s.dose := rfl
@[simp] theorem State.mapRecord_link (s : State) (e : Entry) (f : Record → Record) : (s.mapRecord e f).link = s.link := rfl
@[simp] theorem State.mapRecord_answer (s : State) (e : Entry) (f : Record → Record) : (s.mapRecord e f).answer = s.answer := rfl

@[simp] theorem State.setPlate_pending (s : State) (sl : Slot) (p : PlateFilter) : (s.setPlate sl p).pending = s.pending := rfl
@[simp] theorem State.setPlate_pins (s : State) (sl : Slot) (p : PlateFilter) : (s.setPlate sl p).pins = s.pins := rfl
@[simp] theorem State.setPlate_sup (s : State) (sl : Slot) (p : PlateFilter) : (s.setPlate sl p).sup = s.sup := rfl
@[simp] theorem State.setPlate_masters (s : State) (sl : Slot) (p : PlateFilter) : (s.setPlate sl p).masters = s.masters := rfl
@[simp] theorem State.setPlate_releaseQueue (s : State) (sl : Slot) (p : PlateFilter) : (s.setPlate sl p).releaseQueue = s.releaseQueue := rfl
@[simp] theorem State.setPlate_removalReports (s : State) (sl : Slot) (p : PlateFilter) : (s.setPlate sl p).removalReports = s.removalReports := rfl
@[simp] theorem State.setPlate_dir (s : State) (sl : Slot) (p : PlateFilter) : (s.setPlate sl p).dir = s.dir := rfl
@[simp] theorem State.setPlate_raster (s : State) (sl : Slot) (p : PlateFilter) : (s.setPlate sl p).raster = s.raster := rfl
@[simp] theorem State.setPlate_panel (s : State) (sl : Slot) (p : PlateFilter) : (s.setPlate sl p).panel = s.panel := rfl
@[simp] theorem State.setPlate_seq (s : State) (sl : Slot) (p : PlateFilter) : (s.setPlate sl p).seq = s.seq := rfl
@[simp] theorem State.setPlate_motion (s : State) (sl : Slot) (p : PlateFilter) : (s.setPlate sl p).motion = s.motion := rfl
@[simp] theorem State.setPlate_dose (s : State) (sl : Slot) (p : PlateFilter) : (s.setPlate sl p).dose = s.dose := rfl
@[simp] theorem State.setPlate_link (s : State) (sl : Slot) (p : PlateFilter) : (s.setPlate sl p).link = s.link := rfl
@[simp] theorem State.setPlate_answer (s : State) (sl : Slot) (p : PlateFilter) : (s.setPlate sl p).answer = s.answer := rfl

@[simp] theorem State.freeBank_pending (s : State) (id : BankId) : (s.freeBank id).pending = s.pending := rfl
@[simp] theorem State.freeBank_pins (s : State) (id : BankId) : (s.freeBank id).pins = s.pins := rfl
@[simp] theorem State.freeBank_sup (s : State) (id : BankId) : (s.freeBank id).sup = s.sup := rfl
@[simp] theorem State.freeBank_plates (s : State) (id : BankId) : (s.freeBank id).plates = s.plates := rfl
@[simp] theorem State.freeBank_masters (s : State) (id : BankId) : (s.freeBank id).masters = s.masters := rfl
@[simp] theorem State.freeBank_releaseQueue (s : State) (id : BankId) : (s.freeBank id).releaseQueue = s.releaseQueue := rfl
@[simp] theorem State.freeBank_removalReports (s : State) (id : BankId) : (s.freeBank id).removalReports = s.removalReports := rfl
@[simp] theorem State.freeBank_dir (s : State) (id : BankId) : (s.freeBank id).dir = s.dir := rfl
@[simp] theorem State.freeBank_raster (s : State) (id : BankId) : (s.freeBank id).raster = s.raster := rfl
@[simp] theorem State.freeBank_seq (s : State) (id : BankId) : (s.freeBank id).seq = s.seq := rfl
@[simp] theorem State.freeBank_motion (s : State) (id : BankId) : (s.freeBank id).motion = s.motion := rfl
@[simp] theorem State.freeBank_dose (s : State) (id : BankId) : (s.freeBank id).dose = s.dose := rfl
@[simp] theorem State.freeBank_link (s : State) (id : BankId) : (s.freeBank id).link = s.link := rfl
@[simp] theorem State.freeBank_answer (s : State) (id : BankId) : (s.freeBank id).answer = s.answer := rfl

@[simp] theorem State.orphanBank_pending (s : State) (id : BankId) : (s.orphanBank id).pending = s.pending := rfl
@[simp] theorem State.orphanBank_pins (s : State) (id : BankId) : (s.orphanBank id).pins = s.pins := rfl
@[simp] theorem State.orphanBank_sup (s : State) (id : BankId) : (s.orphanBank id).sup = s.sup := rfl
@[simp] theorem State.orphanBank_plates (s : State) (id : BankId) : (s.orphanBank id).plates = s.plates := rfl
@[simp] theorem State.orphanBank_masters (s : State) (id : BankId) : (s.orphanBank id).masters = s.masters := rfl
@[simp] theorem State.orphanBank_releaseQueue (s : State) (id : BankId) : (s.orphanBank id).releaseQueue = s.releaseQueue := rfl
@[simp] theorem State.orphanBank_removalReports (s : State) (id : BankId) : (s.orphanBank id).removalReports = s.removalReports := rfl
@[simp] theorem State.orphanBank_dir (s : State) (id : BankId) : (s.orphanBank id).dir = s.dir := rfl
@[simp] theorem State.orphanBank_raster (s : State) (id : BankId) : (s.orphanBank id).raster = s.raster := rfl
@[simp] theorem State.orphanBank_seq (s : State) (id : BankId) : (s.orphanBank id).seq = s.seq := rfl
@[simp] theorem State.orphanBank_motion (s : State) (id : BankId) : (s.orphanBank id).motion = s.motion := rfl
@[simp] theorem State.orphanBank_dose (s : State) (id : BankId) : (s.orphanBank id).dose = s.dose := rfl
@[simp] theorem State.orphanBank_link (s : State) (id : BankId) : (s.orphanBank id).link = s.link := rfl
@[simp] theorem State.orphanBank_answer (s : State) (id : BankId) : (s.orphanBank id).answer = s.answer := rfl

@[simp] theorem State.loadBank_pending (s : State) (id : BankId) : (s.loadBank id).pending = s.pending := rfl
@[simp] theorem State.loadBank_pins (s : State) (id : BankId) : (s.loadBank id).pins = s.pins := rfl
@[simp] theorem State.loadBank_sup (s : State) (id : BankId) : (s.loadBank id).sup = s.sup := rfl
@[simp] theorem State.loadBank_plates (s : State) (id : BankId) : (s.loadBank id).plates = s.plates := rfl
@[simp] theorem State.loadBank_masters (s : State) (id : BankId) : (s.loadBank id).masters = s.masters := rfl
@[simp] theorem State.loadBank_releaseQueue (s : State) (id : BankId) : (s.loadBank id).releaseQueue = s.releaseQueue := rfl
@[simp] theorem State.loadBank_removalReports (s : State) (id : BankId) : (s.loadBank id).removalReports = s.removalReports := rfl
@[simp] theorem State.loadBank_dir (s : State) (id : BankId) : (s.loadBank id).dir = s.dir := rfl
@[simp] theorem State.loadBank_raster (s : State) (id : BankId) : (s.loadBank id).raster = s.raster := rfl
@[simp] theorem State.loadBank_seq (s : State) (id : BankId) : (s.loadBank id).seq = s.seq := rfl
@[simp] theorem State.loadBank_motion (s : State) (id : BankId) : (s.loadBank id).motion = s.motion := rfl
@[simp] theorem State.loadBank_dose (s : State) (id : BankId) : (s.loadBank id).dose = s.dose := rfl
@[simp] theorem State.loadBank_link (s : State) (id : BankId) : (s.loadBank id).link = s.link := rfl
@[simp] theorem State.loadBank_answer (s : State) (id : BankId) : (s.loadBank id).answer = s.answer := rfl

@[simp] theorem State.returnBank_pending (s : State) (id : BankId) : (s.returnBank id).pending = s.pending := rfl
@[simp] theorem State.returnBank_pins (s : State) (id : BankId) : (s.returnBank id).pins = s.pins := rfl
@[simp] theorem State.returnBank_sup (s : State) (id : BankId) : (s.returnBank id).sup = s.sup := rfl
@[simp] theorem State.returnBank_plates (s : State) (id : BankId) : (s.returnBank id).plates = s.plates := rfl
@[simp] theorem State.returnBank_masters (s : State) (id : BankId) : (s.returnBank id).masters = s.masters := rfl
@[simp] theorem State.returnBank_releaseQueue (s : State) (id : BankId) : (s.returnBank id).releaseQueue = s.releaseQueue := rfl
@[simp] theorem State.returnBank_removalReports (s : State) (id : BankId) : (s.returnBank id).removalReports = s.removalReports := rfl
@[simp] theorem State.returnBank_dir (s : State) (id : BankId) : (s.returnBank id).dir = s.dir := rfl
@[simp] theorem State.returnBank_raster (s : State) (id : BankId) : (s.returnBank id).raster = s.raster := rfl
@[simp] theorem State.returnBank_seq (s : State) (id : BankId) : (s.returnBank id).seq = s.seq := rfl
@[simp] theorem State.returnBank_motion (s : State) (id : BankId) : (s.returnBank id).motion = s.motion := rfl
@[simp] theorem State.returnBank_dose (s : State) (id : BankId) : (s.returnBank id).dose = s.dose := rfl
@[simp] theorem State.returnBank_link (s : State) (id : BankId) : (s.returnBank id).link = s.link := rfl
@[simp] theorem State.returnBank_answer (s : State) (id : BankId) : (s.returnBank id).answer = s.answer := rfl

@[simp] theorem State.showBank_pending (s : State) (id : BankId) (rest : List BankId) : (s.showBank id rest).pending = s.pending := rfl
@[simp] theorem State.showBank_pins (s : State) (id : BankId) (rest : List BankId) : (s.showBank id rest).pins = s.pins := rfl
@[simp] theorem State.showBank_sup (s : State) (id : BankId) (rest : List BankId) : (s.showBank id rest).sup = s.sup := rfl
@[simp] theorem State.showBank_plates (s : State) (id : BankId) (rest : List BankId) : (s.showBank id rest).plates = s.plates := rfl
@[simp] theorem State.showBank_masters (s : State) (id : BankId) (rest : List BankId) : (s.showBank id rest).masters = s.masters := rfl
@[simp] theorem State.showBank_releaseQueue (s : State) (id : BankId) (rest : List BankId) : (s.showBank id rest).releaseQueue = s.releaseQueue := rfl
@[simp] theorem State.showBank_removalReports (s : State) (id : BankId) (rest : List BankId) : (s.showBank id rest).removalReports = s.removalReports := rfl
@[simp] theorem State.showBank_dir (s : State) (id : BankId) (rest : List BankId) : (s.showBank id rest).dir = s.dir := rfl
@[simp] theorem State.showBank_raster (s : State) (id : BankId) (rest : List BankId) : (s.showBank id rest).raster = s.raster := rfl
@[simp] theorem State.showBank_seq (s : State) (id : BankId) (rest : List BankId) : (s.showBank id rest).seq = s.seq := rfl
@[simp] theorem State.showBank_motion (s : State) (id : BankId) (rest : List BankId) : (s.showBank id rest).motion = s.motion := rfl
@[simp] theorem State.showBank_dose (s : State) (id : BankId) (rest : List BankId) : (s.showBank id rest).dose = s.dose := rfl
@[simp] theorem State.showBank_link (s : State) (id : BankId) (rest : List BankId) : (s.showBank id rest).link = s.link := rfl
@[simp] theorem State.showBank_answer (s : State) (id : BankId) (rest : List BankId) : (s.showBank id rest).answer = s.answer := rfl

@[simp] theorem State.linkFault_pending (s : State) (r : LinkReason) : (s.linkFault r).pending = s.pending := rfl
@[simp] theorem State.linkFault_pins (s : State) (r : LinkReason) : (s.linkFault r).pins = s.pins := rfl
@[simp] theorem State.linkFault_plates (s : State) (r : LinkReason) : (s.linkFault r).plates = s.plates := rfl
@[simp] theorem State.linkFault_masters (s : State) (r : LinkReason) : (s.linkFault r).masters = s.masters := rfl
@[simp] theorem State.linkFault_releaseQueue (s : State) (r : LinkReason) : (s.linkFault r).releaseQueue = s.releaseQueue := rfl
@[simp] theorem State.linkFault_removalReports (s : State) (r : LinkReason) : (s.linkFault r).removalReports = s.removalReports := rfl
@[simp] theorem State.linkFault_dir (s : State) (r : LinkReason) : (s.linkFault r).dir = s.dir := rfl
@[simp] theorem State.linkFault_raster (s : State) (r : LinkReason) : (s.linkFault r).raster = s.raster := rfl
@[simp] theorem State.linkFault_panel (s : State) (r : LinkReason) : (s.linkFault r).panel = s.panel := rfl
@[simp] theorem State.linkFault_seq (s : State) (r : LinkReason) : (s.linkFault r).seq = s.seq := rfl
@[simp] theorem State.linkFault_motion (s : State) (r : LinkReason) : (s.linkFault r).motion = s.motion := rfl
@[simp] theorem State.linkFault_dose (s : State) (r : LinkReason) : (s.linkFault r).dose = s.dose := rfl
@[simp] theorem State.linkFault_answer (s : State) (r : LinkReason) : (s.linkFault r).answer = s.answer := rfl

@[simp] theorem State.rasterFault_pending (s : State) (r : RasterReason) (h : Half) : (s.rasterFault r h).pending = s.pending := rfl
@[simp] theorem State.rasterFault_pins (s : State) (r : RasterReason) (h : Half) : (s.rasterFault r h).pins = s.pins := rfl
@[simp] theorem State.rasterFault_plates (s : State) (r : RasterReason) (h : Half) : (s.rasterFault r h).plates = s.plates := rfl
@[simp] theorem State.rasterFault_masters (s : State) (r : RasterReason) (h : Half) : (s.rasterFault r h).masters = s.masters := rfl
@[simp] theorem State.rasterFault_releaseQueue (s : State) (r : RasterReason) (h : Half) : (s.rasterFault r h).releaseQueue = s.releaseQueue := rfl
@[simp] theorem State.rasterFault_removalReports (s : State) (r : RasterReason) (h : Half) : (s.rasterFault r h).removalReports = s.removalReports := rfl
@[simp] theorem State.rasterFault_dir (s : State) (r : RasterReason) (h : Half) : (s.rasterFault r h).dir = s.dir := rfl
@[simp] theorem State.rasterFault_panel (s : State) (r : RasterReason) (h : Half) : (s.rasterFault r h).panel = s.panel := rfl
@[simp] theorem State.rasterFault_seq (s : State) (r : RasterReason) (h : Half) : (s.rasterFault r h).seq = s.seq := rfl
@[simp] theorem State.rasterFault_motion (s : State) (r : RasterReason) (h : Half) : (s.rasterFault r h).motion = s.motion := rfl
@[simp] theorem State.rasterFault_dose (s : State) (r : RasterReason) (h : Half) : (s.rasterFault r h).dose = s.dose := rfl
@[simp] theorem State.rasterFault_link (s : State) (r : RasterReason) (h : Half) : (s.rasterFault r h).link = s.link := rfl
@[simp] theorem State.rasterFault_answer (s : State) (r : RasterReason) (h : Half) : (s.rasterFault r h).answer = s.answer := rfl

@[simp] theorem State.latchClash_pending (s : State) : (s.latchClash).pending = s.pending := rfl
@[simp] theorem State.latchClash_pins (s : State) : (s.latchClash).pins = s.pins := rfl
@[simp] theorem State.latchClash_plates (s : State) : (s.latchClash).plates = s.plates := rfl
@[simp] theorem State.latchClash_masters (s : State) : (s.latchClash).masters = s.masters := rfl
@[simp] theorem State.latchClash_releaseQueue (s : State) : (s.latchClash).releaseQueue = s.releaseQueue := rfl
@[simp] theorem State.latchClash_removalReports (s : State) : (s.latchClash).removalReports = s.removalReports := rfl
@[simp] theorem State.latchClash_dir (s : State) : (s.latchClash).dir = s.dir := rfl
@[simp] theorem State.latchClash_raster (s : State) : (s.latchClash).raster = s.raster := rfl
@[simp] theorem State.latchClash_panel (s : State) : (s.latchClash).panel = s.panel := rfl
@[simp] theorem State.latchClash_seq (s : State) : (s.latchClash).seq = s.seq := rfl
@[simp] theorem State.latchClash_motion (s : State) : (s.latchClash).motion = s.motion := rfl
@[simp] theorem State.latchClash_dose (s : State) : (s.latchClash).dose = s.dose := rfl
@[simp] theorem State.latchClash_link (s : State) : (s.latchClash).link = s.link := rfl
@[simp] theorem State.latchClash_answer (s : State) : (s.latchClash).answer = s.answer := rfl

@[simp] theorem State.latchPlate_pending (s : State) : (s.latchPlate).pending = s.pending := rfl
@[simp] theorem State.latchPlate_pins (s : State) : (s.latchPlate).pins = s.pins := rfl
@[simp] theorem State.latchPlate_plates (s : State) : (s.latchPlate).plates = s.plates := rfl
@[simp] theorem State.latchPlate_masters (s : State) : (s.latchPlate).masters = s.masters := rfl
@[simp] theorem State.latchPlate_releaseQueue (s : State) : (s.latchPlate).releaseQueue = s.releaseQueue := rfl
@[simp] theorem State.latchPlate_removalReports (s : State) : (s.latchPlate).removalReports = s.removalReports := rfl
@[simp] theorem State.latchPlate_dir (s : State) : (s.latchPlate).dir = s.dir := rfl
@[simp] theorem State.latchPlate_raster (s : State) : (s.latchPlate).raster = s.raster := rfl
@[simp] theorem State.latchPlate_panel (s : State) : (s.latchPlate).panel = s.panel := rfl
@[simp] theorem State.latchPlate_seq (s : State) : (s.latchPlate).seq = s.seq := rfl
@[simp] theorem State.latchPlate_motion (s : State) : (s.latchPlate).motion = s.motion := rfl
@[simp] theorem State.latchPlate_dose (s : State) : (s.latchPlate).dose = s.dose := rfl
@[simp] theorem State.latchPlate_link (s : State) : (s.latchPlate).link = s.link := rfl
@[simp] theorem State.latchPlate_answer (s : State) : (s.latchPlate).answer = s.answer := rfl

@[simp] theorem State.clearShown_pending (s : State) (b : Byte) : (s.clearShown b).pending = s.pending := rfl
@[simp] theorem State.clearShown_pins (s : State) (b : Byte) : (s.clearShown b).pins = s.pins := rfl
@[simp] theorem State.clearShown_plates (s : State) (b : Byte) : (s.clearShown b).plates = s.plates := rfl
@[simp] theorem State.clearShown_masters (s : State) (b : Byte) : (s.clearShown b).masters = s.masters := rfl
@[simp] theorem State.clearShown_releaseQueue (s : State) (b : Byte) : (s.clearShown b).releaseQueue = s.releaseQueue := rfl
@[simp] theorem State.clearShown_removalReports (s : State) (b : Byte) : (s.clearShown b).removalReports = s.removalReports := rfl
@[simp] theorem State.clearShown_dir (s : State) (b : Byte) : (s.clearShown b).dir = s.dir := rfl
@[simp] theorem State.clearShown_raster (s : State) (b : Byte) : (s.clearShown b).raster = s.raster := rfl
@[simp] theorem State.clearShown_panel (s : State) (b : Byte) : (s.clearShown b).panel = s.panel := rfl
@[simp] theorem State.clearShown_seq (s : State) (b : Byte) : (s.clearShown b).seq = s.seq := rfl
@[simp] theorem State.clearShown_motion (s : State) (b : Byte) : (s.clearShown b).motion = s.motion := rfl
@[simp] theorem State.clearShown_dose (s : State) (b : Byte) : (s.clearShown b).dose = s.dose := rfl
@[simp] theorem State.clearShown_link (s : State) (b : Byte) : (s.clearShown b).link = s.link := rfl
@[simp] theorem State.clearShown_answer (s : State) (b : Byte) : (s.clearShown b).answer = s.answer := rfl

@[simp] theorem State.dropJob_pending (s : State) (p : PathState) (w : PathFault) : (s.dropJob p w).pending = s.pending := rfl
@[simp] theorem State.dropJob_pins (s : State) (p : PathState) (w : PathFault) : (s.dropJob p w).pins = s.pins := rfl
@[simp] theorem State.dropJob_sup (s : State) (p : PathState) (w : PathFault) : (s.dropJob p w).sup = s.sup := rfl
@[simp] theorem State.dropJob_plates (s : State) (p : PathState) (w : PathFault) : (s.dropJob p w).plates = s.plates := rfl
@[simp] theorem State.dropJob_masters (s : State) (p : PathState) (w : PathFault) : (s.dropJob p w).masters = s.masters := rfl
@[simp] theorem State.dropJob_releaseQueue (s : State) (p : PathState) (w : PathFault) : (s.dropJob p w).releaseQueue = s.releaseQueue := rfl
@[simp] theorem State.dropJob_removalReports (s : State) (p : PathState) (w : PathFault) : (s.dropJob p w).removalReports = s.removalReports := rfl
@[simp] theorem State.dropJob_dir (s : State) (p : PathState) (w : PathFault) : (s.dropJob p w).dir = s.dir := rfl
@[simp] theorem State.dropJob_raster (s : State) (p : PathState) (w : PathFault) : (s.dropJob p w).raster = s.raster := rfl
@[simp] theorem State.dropJob_panel (s : State) (p : PathState) (w : PathFault) : (s.dropJob p w).panel = s.panel := rfl
@[simp] theorem State.dropJob_motion (s : State) (p : PathState) (w : PathFault) : (s.dropJob p w).motion = s.motion := rfl
@[simp] theorem State.dropJob_dose (s : State) (p : PathState) (w : PathFault) : (s.dropJob p w).dose = s.dose := rfl
@[simp] theorem State.dropJob_link (s : State) (p : PathState) (w : PathFault) : (s.dropJob p w).link = s.link := rfl
@[simp] theorem State.dropJob_answer (s : State) (p : PathState) (w : PathFault) : (s.dropJob p w).answer = s.answer := rfl

@[simp] theorem State.abandonPreparation_pending (s : State) : (s.abandonPreparation).pending = s.pending := rfl
@[simp] theorem State.abandonPreparation_pins (s : State) : (s.abandonPreparation).pins = s.pins := rfl
@[simp] theorem State.abandonPreparation_sup (s : State) : (s.abandonPreparation).sup = s.sup := rfl
@[simp] theorem State.abandonPreparation_plates (s : State) : (s.abandonPreparation).plates = s.plates := rfl
@[simp] theorem State.abandonPreparation_masters (s : State) : (s.abandonPreparation).masters = s.masters := rfl
@[simp] theorem State.abandonPreparation_releaseQueue (s : State) : (s.abandonPreparation).releaseQueue = s.releaseQueue := rfl
@[simp] theorem State.abandonPreparation_removalReports (s : State) : (s.abandonPreparation).removalReports = s.removalReports := rfl
@[simp] theorem State.abandonPreparation_dir (s : State) : (s.abandonPreparation).dir = s.dir := rfl
@[simp] theorem State.abandonPreparation_raster (s : State) : (s.abandonPreparation).raster = s.raster := rfl
@[simp] theorem State.abandonPreparation_seq (s : State) : (s.abandonPreparation).seq = s.seq := rfl
@[simp] theorem State.abandonPreparation_dose (s : State) : (s.abandonPreparation).dose = s.dose := rfl
@[simp] theorem State.abandonPreparation_link (s : State) : (s.abandonPreparation).link = s.link := rfl
@[simp] theorem State.abandonPreparation_answer (s : State) : (s.abandonPreparation).answer = s.answer := rfl

@[simp] theorem State.sendTail_pending (s : State) (b : TailBytes) (p : PendingAnswer) : (s.sendTail b p).pending = s.pending := rfl
@[simp] theorem State.sendTail_pins (s : State) (b : TailBytes) (p : PendingAnswer) : (s.sendTail b p).pins = s.pins := rfl
@[simp] theorem State.sendTail_sup (s : State) (b : TailBytes) (p : PendingAnswer) : (s.sendTail b p).sup = s.sup := rfl
@[simp] theorem State.sendTail_plates (s : State) (b : TailBytes) (p : PendingAnswer) : (s.sendTail b p).plates = s.plates := rfl
@[simp] theorem State.sendTail_masters (s : State) (b : TailBytes) (p : PendingAnswer) : (s.sendTail b p).masters = s.masters := rfl
@[simp] theorem State.sendTail_releaseQueue (s : State) (b : TailBytes) (p : PendingAnswer) : (s.sendTail b p).releaseQueue = s.releaseQueue := rfl
@[simp] theorem State.sendTail_removalReports (s : State) (b : TailBytes) (p : PendingAnswer) : (s.sendTail b p).removalReports = s.removalReports := rfl
@[simp] theorem State.sendTail_dir (s : State) (b : TailBytes) (p : PendingAnswer) : (s.sendTail b p).dir = s.dir := rfl
@[simp] theorem State.sendTail_raster (s : State) (b : TailBytes) (p : PendingAnswer) : (s.sendTail b p).raster = s.raster := rfl
@[simp] theorem State.sendTail_panel (s : State) (b : TailBytes) (p : PendingAnswer) : (s.sendTail b p).panel = s.panel := rfl
@[simp] theorem State.sendTail_seq (s : State) (b : TailBytes) (p : PendingAnswer) : (s.sendTail b p).seq = s.seq := rfl
@[simp] theorem State.sendTail_motion (s : State) (b : TailBytes) (p : PendingAnswer) : (s.sendTail b p).motion = s.motion := rfl
@[simp] theorem State.sendTail_dose (s : State) (b : TailBytes) (p : PendingAnswer) : (s.sendTail b p).dose = s.dose := rfl

@[simp] theorem State.enterSync_pending (s : State) (r : Bool) : (s.enterSync r).pending = s.pending := rfl
@[simp] theorem State.enterSync_pins (s : State) (r : Bool) : (s.enterSync r).pins = s.pins := rfl
@[simp] theorem State.enterSync_sup (s : State) (r : Bool) : (s.enterSync r).sup = s.sup := rfl
@[simp] theorem State.enterSync_plates (s : State) (r : Bool) : (s.enterSync r).plates = s.plates := rfl
@[simp] theorem State.enterSync_masters (s : State) (r : Bool) : (s.enterSync r).masters = s.masters := rfl
@[simp] theorem State.enterSync_releaseQueue (s : State) (r : Bool) : (s.enterSync r).releaseQueue = s.releaseQueue := rfl
@[simp] theorem State.enterSync_removalReports (s : State) (r : Bool) : (s.enterSync r).removalReports = s.removalReports := rfl
@[simp] theorem State.enterSync_dir (s : State) (r : Bool) : (s.enterSync r).dir = s.dir := rfl
@[simp] theorem State.enterSync_raster (s : State) (r : Bool) : (s.enterSync r).raster = s.raster := rfl
@[simp] theorem State.enterSync_panel (s : State) (r : Bool) : (s.enterSync r).panel = s.panel := rfl
@[simp] theorem State.enterSync_seq (s : State) (r : Bool) : (s.enterSync r).seq = s.seq := rfl
@[simp] theorem State.enterSync_motion (s : State) (r : Bool) : (s.enterSync r).motion = s.motion := rfl
@[simp] theorem State.enterSync_dose (s : State) (r : Bool) : (s.enterSync r).dose = s.dose := rfl

@[simp] theorem State.advance_pending (s : State) (sl : Slot) : (s.advance sl).pending = s.pending := rfl
@[simp] theorem State.advance_pins (s : State) (sl : Slot) : (s.advance sl).pins = s.pins := rfl
@[simp] theorem State.advance_sup (s : State) (sl : Slot) : (s.advance sl).sup = s.sup := rfl
@[simp] theorem State.advance_plates (s : State) (sl : Slot) : (s.advance sl).plates = s.plates := rfl
@[simp] theorem State.advance_releaseQueue (s : State) (sl : Slot) : (s.advance sl).releaseQueue = s.releaseQueue := rfl
@[simp] theorem State.advance_removalReports (s : State) (sl : Slot) : (s.advance sl).removalReports = s.removalReports := rfl
@[simp] theorem State.advance_dir (s : State) (sl : Slot) : (s.advance sl).dir = s.dir := rfl
@[simp] theorem State.advance_raster (s : State) (sl : Slot) : (s.advance sl).raster = s.raster := rfl
@[simp] theorem State.advance_panel (s : State) (sl : Slot) : (s.advance sl).panel = s.panel := rfl
@[simp] theorem State.advance_seq (s : State) (sl : Slot) : (s.advance sl).seq = s.seq := rfl
@[simp] theorem State.advance_motion (s : State) (sl : Slot) : (s.advance sl).motion = s.motion := rfl
@[simp] theorem State.advance_dose (s : State) (sl : Slot) : (s.advance sl).dose = s.dose := rfl
@[simp] theorem State.advance_link (s : State) (sl : Slot) : (s.advance sl).link = s.link := rfl
@[simp] theorem State.advance_answer (s : State) (sl : Slot) : (s.advance sl).answer = s.answer := rfl

@[simp] theorem State.bindIndex_pending (s : State) (sl : Slot) : (s.bindIndex sl).pending = s.pending := rfl
@[simp] theorem State.bindIndex_pins (s : State) (sl : Slot) : (s.bindIndex sl).pins = s.pins := rfl
@[simp] theorem State.bindIndex_sup (s : State) (sl : Slot) : (s.bindIndex sl).sup = s.sup := rfl
@[simp] theorem State.bindIndex_plates (s : State) (sl : Slot) : (s.bindIndex sl).plates = s.plates := rfl
@[simp] theorem State.bindIndex_releaseQueue (s : State) (sl : Slot) : (s.bindIndex sl).releaseQueue = s.releaseQueue := rfl
@[simp] theorem State.bindIndex_removalReports (s : State) (sl : Slot) : (s.bindIndex sl).removalReports = s.removalReports := rfl
@[simp] theorem State.bindIndex_dir (s : State) (sl : Slot) : (s.bindIndex sl).dir = s.dir := rfl
@[simp] theorem State.bindIndex_raster (s : State) (sl : Slot) : (s.bindIndex sl).raster = s.raster := rfl
@[simp] theorem State.bindIndex_panel (s : State) (sl : Slot) : (s.bindIndex sl).panel = s.panel := rfl
@[simp] theorem State.bindIndex_seq (s : State) (sl : Slot) : (s.bindIndex sl).seq = s.seq := rfl
@[simp] theorem State.bindIndex_motion (s : State) (sl : Slot) : (s.bindIndex sl).motion = s.motion := rfl
@[simp] theorem State.bindIndex_dose (s : State) (sl : Slot) : (s.bindIndex sl).dose = s.dose := rfl
@[simp] theorem State.bindIndex_link (s : State) (sl : Slot) : (s.bindIndex sl).link = s.link := rfl
@[simp] theorem State.bindIndex_answer (s : State) (sl : Slot) : (s.bindIndex sl).answer = s.answer := rfl

@[simp] theorem State.unbindIndex_pending (s : State) (sl : Slot) : (s.unbindIndex sl).pending = s.pending := rfl
@[simp] theorem State.unbindIndex_pins (s : State) (sl : Slot) : (s.unbindIndex sl).pins = s.pins := rfl
@[simp] theorem State.unbindIndex_sup (s : State) (sl : Slot) : (s.unbindIndex sl).sup = s.sup := rfl
@[simp] theorem State.unbindIndex_plates (s : State) (sl : Slot) : (s.unbindIndex sl).plates = s.plates := rfl
@[simp] theorem State.unbindIndex_releaseQueue (s : State) (sl : Slot) : (s.unbindIndex sl).releaseQueue = s.releaseQueue := rfl
@[simp] theorem State.unbindIndex_removalReports (s : State) (sl : Slot) : (s.unbindIndex sl).removalReports = s.removalReports := rfl
@[simp] theorem State.unbindIndex_dir (s : State) (sl : Slot) : (s.unbindIndex sl).dir = s.dir := rfl
@[simp] theorem State.unbindIndex_raster (s : State) (sl : Slot) : (s.unbindIndex sl).raster = s.raster := rfl
@[simp] theorem State.unbindIndex_panel (s : State) (sl : Slot) : (s.unbindIndex sl).panel = s.panel := rfl
@[simp] theorem State.unbindIndex_seq (s : State) (sl : Slot) : (s.unbindIndex sl).seq = s.seq := rfl
@[simp] theorem State.unbindIndex_motion (s : State) (sl : Slot) : (s.unbindIndex sl).motion = s.motion := rfl
@[simp] theorem State.unbindIndex_dose (s : State) (sl : Slot) : (s.unbindIndex sl).dose = s.dose := rfl
@[simp] theorem State.unbindIndex_link (s : State) (sl : Slot) : (s.unbindIndex sl).link = s.link := rfl
@[simp] theorem State.unbindIndex_answer (s : State) (sl : Slot) : (s.unbindIndex sl).answer = s.answer := rfl

@[simp] theorem State.exposeIndex_pending (s : State) (sl : Slot) (p : Nat) : (s.exposeIndex sl p).pending = s.pending := rfl
@[simp] theorem State.exposeIndex_pins (s : State) (sl : Slot) (p : Nat) : (s.exposeIndex sl p).pins = s.pins := rfl
@[simp] theorem State.exposeIndex_sup (s : State) (sl : Slot) (p : Nat) : (s.exposeIndex sl p).sup = s.sup := rfl
@[simp] theorem State.exposeIndex_plates (s : State) (sl : Slot) (p : Nat) : (s.exposeIndex sl p).plates = s.plates := rfl
@[simp] theorem State.exposeIndex_releaseQueue (s : State) (sl : Slot) (p : Nat) : (s.exposeIndex sl p).releaseQueue = s.releaseQueue := rfl
@[simp] theorem State.exposeIndex_removalReports (s : State) (sl : Slot) (p : Nat) : (s.exposeIndex sl p).removalReports = s.removalReports := rfl
@[simp] theorem State.exposeIndex_dir (s : State) (sl : Slot) (p : Nat) : (s.exposeIndex sl p).dir = s.dir := rfl
@[simp] theorem State.exposeIndex_raster (s : State) (sl : Slot) (p : Nat) : (s.exposeIndex sl p).raster = s.raster := rfl
@[simp] theorem State.exposeIndex_panel (s : State) (sl : Slot) (p : Nat) : (s.exposeIndex sl p).panel = s.panel := rfl
@[simp] theorem State.exposeIndex_seq (s : State) (sl : Slot) (p : Nat) : (s.exposeIndex sl p).seq = s.seq := rfl
@[simp] theorem State.exposeIndex_motion (s : State) (sl : Slot) (p : Nat) : (s.exposeIndex sl p).motion = s.motion := rfl
@[simp] theorem State.exposeIndex_dose (s : State) (sl : Slot) (p : Nat) : (s.exposeIndex sl p).dose = s.dose := rfl
@[simp] theorem State.exposeIndex_link (s : State) (sl : Slot) (p : Nat) : (s.exposeIndex sl p).link = s.link := rfl
@[simp] theorem State.exposeIndex_answer (s : State) (sl : Slot) (p : Nat) : (s.exposeIndex sl p).answer = s.answer := rfl

@[simp] theorem State.exposeTitle_pending (s : State) (sl : Slot) : (s.exposeTitle sl).pending = s.pending := rfl
@[simp] theorem State.exposeTitle_pins (s : State) (sl : Slot) : (s.exposeTitle sl).pins = s.pins := rfl
@[simp] theorem State.exposeTitle_sup (s : State) (sl : Slot) : (s.exposeTitle sl).sup = s.sup := rfl
@[simp] theorem State.exposeTitle_plates (s : State) (sl : Slot) : (s.exposeTitle sl).plates = s.plates := rfl
@[simp] theorem State.exposeTitle_releaseQueue (s : State) (sl : Slot) : (s.exposeTitle sl).releaseQueue = s.releaseQueue := rfl
@[simp] theorem State.exposeTitle_removalReports (s : State) (sl : Slot) : (s.exposeTitle sl).removalReports = s.removalReports := rfl
@[simp] theorem State.exposeTitle_dir (s : State) (sl : Slot) : (s.exposeTitle sl).dir = s.dir := rfl
@[simp] theorem State.exposeTitle_raster (s : State) (sl : Slot) : (s.exposeTitle sl).raster = s.raster := rfl
@[simp] theorem State.exposeTitle_panel (s : State) (sl : Slot) : (s.exposeTitle sl).panel = s.panel := rfl
@[simp] theorem State.exposeTitle_seq (s : State) (sl : Slot) : (s.exposeTitle sl).seq = s.seq := rfl
@[simp] theorem State.exposeTitle_motion (s : State) (sl : Slot) : (s.exposeTitle sl).motion = s.motion := rfl
@[simp] theorem State.exposeTitle_dose (s : State) (sl : Slot) : (s.exposeTitle sl).dose = s.dose := rfl
@[simp] theorem State.exposeTitle_link (s : State) (sl : Slot) : (s.exposeTitle sl).link = s.link := rfl
@[simp] theorem State.exposeTitle_answer (s : State) (sl : Slot) : (s.exposeTitle sl).answer = s.answer := rfl

@[simp] theorem State.failMaster_pending (s : State) (sl : Slot) (w : FailureReason) : (s.failMaster sl w).pending = s.pending := rfl
@[simp] theorem State.failMaster_pins (s : State) (sl : Slot) (w : FailureReason) : (s.failMaster sl w).pins = s.pins := rfl
@[simp] theorem State.failMaster_sup (s : State) (sl : Slot) (w : FailureReason) : (s.failMaster sl w).sup = s.sup := rfl
@[simp] theorem State.failMaster_plates (s : State) (sl : Slot) (w : FailureReason) : (s.failMaster sl w).plates = s.plates := rfl
@[simp] theorem State.failMaster_releaseQueue (s : State) (sl : Slot) (w : FailureReason) : (s.failMaster sl w).releaseQueue = s.releaseQueue := rfl
@[simp] theorem State.failMaster_removalReports (s : State) (sl : Slot) (w : FailureReason) : (s.failMaster sl w).removalReports = s.removalReports := rfl
@[simp] theorem State.failMaster_dir (s : State) (sl : Slot) (w : FailureReason) : (s.failMaster sl w).dir = s.dir := rfl
@[simp] theorem State.failMaster_raster (s : State) (sl : Slot) (w : FailureReason) : (s.failMaster sl w).raster = s.raster := rfl
@[simp] theorem State.failMaster_panel (s : State) (sl : Slot) (w : FailureReason) : (s.failMaster sl w).panel = s.panel := rfl
@[simp] theorem State.failMaster_seq (s : State) (sl : Slot) (w : FailureReason) : (s.failMaster sl w).seq = s.seq := rfl
@[simp] theorem State.failMaster_motion (s : State) (sl : Slot) (w : FailureReason) : (s.failMaster sl w).motion = s.motion := rfl
@[simp] theorem State.failMaster_dose (s : State) (sl : Slot) (w : FailureReason) : (s.failMaster sl w).dose = s.dose := rfl
@[simp] theorem State.failMaster_link (s : State) (sl : Slot) (w : FailureReason) : (s.failMaster sl w).link = s.link := rfl
@[simp] theorem State.failMaster_answer (s : State) (sl : Slot) (w : FailureReason) : (s.failMaster sl w).answer = s.answer := rfl

@[simp] theorem State.loseRecords_pending (s : State) (sl : Slot) : (s.loseRecords sl).pending = s.pending := rfl
@[simp] theorem State.loseRecords_pins (s : State) (sl : Slot) : (s.loseRecords sl).pins = s.pins := rfl
@[simp] theorem State.loseRecords_sup (s : State) (sl : Slot) : (s.loseRecords sl).sup = s.sup := rfl
@[simp] theorem State.loseRecords_plates (s : State) (sl : Slot) : (s.loseRecords sl).plates = s.plates := rfl
@[simp] theorem State.loseRecords_masters (s : State) (sl : Slot) : (s.loseRecords sl).masters = s.masters := rfl
@[simp] theorem State.loseRecords_releaseQueue (s : State) (sl : Slot) : (s.loseRecords sl).releaseQueue = s.releaseQueue := rfl
@[simp] theorem State.loseRecords_removalReports (s : State) (sl : Slot) : (s.loseRecords sl).removalReports = s.removalReports := rfl
@[simp] theorem State.loseRecords_raster (s : State) (sl : Slot) : (s.loseRecords sl).raster = s.raster := rfl
@[simp] theorem State.loseRecords_panel (s : State) (sl : Slot) : (s.loseRecords sl).panel = s.panel := rfl
@[simp] theorem State.loseRecords_seq (s : State) (sl : Slot) : (s.loseRecords sl).seq = s.seq := rfl
@[simp] theorem State.loseRecords_motion (s : State) (sl : Slot) : (s.loseRecords sl).motion = s.motion := rfl
@[simp] theorem State.loseRecords_dose (s : State) (sl : Slot) : (s.loseRecords sl).dose = s.dose := rfl
@[simp] theorem State.loseRecords_link (s : State) (sl : Slot) : (s.loseRecords sl).link = s.link := rfl
@[simp] theorem State.loseRecords_answer (s : State) (sl : Slot) : (s.loseRecords sl).answer = s.answer := rfl

@[simp] theorem State.dropEntry_pending (s : State) (e : Entry) : (s.dropEntry e).pending = s.pending := rfl
@[simp] theorem State.dropEntry_pins (s : State) (e : Entry) : (s.dropEntry e).pins = s.pins := rfl
@[simp] theorem State.dropEntry_sup (s : State) (e : Entry) : (s.dropEntry e).sup = s.sup := rfl
@[simp] theorem State.dropEntry_plates (s : State) (e : Entry) : (s.dropEntry e).plates = s.plates := rfl
@[simp] theorem State.dropEntry_masters (s : State) (e : Entry) : (s.dropEntry e).masters = s.masters := rfl
@[simp] theorem State.dropEntry_releaseQueue (s : State) (e : Entry) : (s.dropEntry e).releaseQueue = s.releaseQueue := rfl
@[simp] theorem State.dropEntry_removalReports (s : State) (e : Entry) : (s.dropEntry e).removalReports = s.removalReports := rfl
@[simp] theorem State.dropEntry_raster (s : State) (e : Entry) : (s.dropEntry e).raster = s.raster := rfl
@[simp] theorem State.dropEntry_panel (s : State) (e : Entry) : (s.dropEntry e).panel = s.panel := rfl
@[simp] theorem State.dropEntry_seq (s : State) (e : Entry) : (s.dropEntry e).seq = s.seq := rfl
@[simp] theorem State.dropEntry_motion (s : State) (e : Entry) : (s.dropEntry e).motion = s.motion := rfl
@[simp] theorem State.dropEntry_dose (s : State) (e : Entry) : (s.dropEntry e).dose = s.dose := rfl
@[simp] theorem State.dropEntry_link (s : State) (e : Entry) : (s.dropEntry e).link = s.link := rfl
@[simp] theorem State.dropEntry_answer (s : State) (e : Entry) : (s.dropEntry e).answer = s.answer := rfl

@[simp] theorem State.refile_pending (s : State) (r : Record) : (s.refile r).pending = s.pending := rfl
@[simp] theorem State.refile_pins (s : State) (r : Record) : (s.refile r).pins = s.pins := rfl
@[simp] theorem State.refile_sup (s : State) (r : Record) : (s.refile r).sup = s.sup := rfl
@[simp] theorem State.refile_plates (s : State) (r : Record) : (s.refile r).plates = s.plates := rfl
@[simp] theorem State.refile_masters (s : State) (r : Record) : (s.refile r).masters = s.masters := rfl
@[simp] theorem State.refile_releaseQueue (s : State) (r : Record) : (s.refile r).releaseQueue = s.releaseQueue := rfl
@[simp] theorem State.refile_removalReports (s : State) (r : Record) : (s.refile r).removalReports = s.removalReports := rfl
@[simp] theorem State.refile_raster (s : State) (r : Record) : (s.refile r).raster = s.raster := rfl
@[simp] theorem State.refile_panel (s : State) (r : Record) : (s.refile r).panel = s.panel := rfl
@[simp] theorem State.refile_seq (s : State) (r : Record) : (s.refile r).seq = s.seq := rfl
@[simp] theorem State.refile_motion (s : State) (r : Record) : (s.refile r).motion = s.motion := rfl
@[simp] theorem State.refile_dose (s : State) (r : Record) : (s.refile r).dose = s.dose := rfl
@[simp] theorem State.refile_link (s : State) (r : Record) : (s.refile r).link = s.link := rfl
@[simp] theorem State.refile_answer (s : State) (r : Record) : (s.refile r).answer = s.answer := rfl

@[simp] theorem State.markCell_keeps (s : State) (sl : Slot) (n : Nat) (c : CellState) :
    (s.markCell sl n c).pending = s.pending ∧ (s.markCell sl n c).pins = s.pins ∧ (s.markCell sl n c).sup = s.sup ∧
    (s.markCell sl n c).plates = s.plates ∧ (s.markCell sl n c).releaseQueue = s.releaseQueue ∧
    (s.markCell sl n c).removalReports = s.removalReports ∧ (s.markCell sl n c).dir = s.dir ∧
    (s.markCell sl n c).raster = s.raster ∧ (s.markCell sl n c).panel = s.panel ∧ (s.markCell sl n c).seq = s.seq ∧
    (s.markCell sl n c).motion = s.motion ∧ (s.markCell sl n c).dose = s.dose ∧ (s.markCell sl n c).link = s.link ∧
    (s.markCell sl n c).answer = s.answer := by
  unfold State.markCell; split <;> simp

@[simp] theorem State.settleTest_keeps (s : State) (sl : Slot) :
    (s.settleTest sl).pending = s.pending ∧ (s.settleTest sl).pins = s.pins ∧ (s.settleTest sl).sup = s.sup ∧
    (s.settleTest sl).plates = s.plates ∧ (s.settleTest sl).releaseQueue = s.releaseQueue ∧
    (s.settleTest sl).removalReports = s.removalReports ∧ (s.settleTest sl).dir = s.dir ∧
    (s.settleTest sl).raster = s.raster ∧ (s.settleTest sl).panel = s.panel ∧ (s.settleTest sl).seq = s.seq ∧
    (s.settleTest sl).motion = s.motion ∧ (s.settleTest sl).dose = s.dose ∧ (s.settleTest sl).link = s.link ∧
    (s.settleTest sl).answer = s.answer := by
  unfold State.settleTest; split <;> simp

@[simp] theorem State.closeShutter_keeps (s : State) :
    (s.closeShutter).pending = s.pending ∧ (s.closeShutter).pins = s.pins ∧ (s.closeShutter).sup = s.sup ∧
    (s.closeShutter).plates = s.plates ∧ (s.closeShutter).masters = s.masters ∧
    (s.closeShutter).releaseQueue = s.releaseQueue ∧ (s.closeShutter).removalReports = s.removalReports ∧
    (s.closeShutter).dir = s.dir ∧ (s.closeShutter).raster = s.raster ∧ (s.closeShutter).panel = s.panel ∧
    (s.closeShutter).seq = s.seq ∧ (s.closeShutter).motion = s.motion ∧ (s.closeShutter).link = s.link ∧
    (s.closeShutter).answer = s.answer := by
  unfold State.closeShutter; split <;> simp

@[simp] theorem State.letGo_keeps (s : State) (id : BankId) :
    (s.letGo id).pending = s.pending ∧ (s.letGo id).pins = s.pins ∧ (s.letGo id).sup = s.sup ∧
    (s.letGo id).plates = s.plates ∧ (s.letGo id).masters = s.masters ∧ (s.letGo id).releaseQueue = s.releaseQueue ∧
    (s.letGo id).removalReports = s.removalReports ∧ (s.letGo id).dir = s.dir ∧ (s.letGo id).raster = s.raster ∧
    (s.letGo id).seq = s.seq ∧ (s.letGo id).motion = s.motion ∧ (s.letGo id).dose = s.dose ∧ (s.letGo id).link = s.link ∧
    (s.letGo id).answer = s.answer := by
  unfold State.letGo; split <;> simp

@[simp] theorem State.releaseBankOf_keeps (s : State) (sl : Slot) (id : BankId) :
    (s.releaseBankOf sl id).pending = s.pending ∧ (s.releaseBankOf sl id).pins = s.pins ∧
    (s.releaseBankOf sl id).sup = s.sup ∧ (s.releaseBankOf sl id).plates = s.plates ∧
    (s.releaseBankOf sl id).masters = s.masters ∧ (s.releaseBankOf sl id).releaseQueue = s.releaseQueue ∧
    (s.releaseBankOf sl id).removalReports = s.removalReports ∧ (s.releaseBankOf sl id).dir = s.dir ∧
    (s.releaseBankOf sl id).raster = s.raster ∧ (s.releaseBankOf sl id).seq = s.seq ∧
    (s.releaseBankOf sl id).motion = s.motion ∧ (s.releaseBankOf sl id).dose = s.dose ∧
    (s.releaseBankOf sl id).link = s.link ∧ (s.releaseBankOf sl id).answer = s.answer := by
  unfold State.releaseBankOf; split <;> simp

@[simp] theorem State.releaseBanksOf_keeps (s : State) (sl : Slot) :
    (s.releaseBanksOf sl).pending = s.pending ∧ (s.releaseBanksOf sl).pins = s.pins ∧ (s.releaseBanksOf sl).sup = s.sup ∧
    (s.releaseBanksOf sl).plates = s.plates ∧ (s.releaseBanksOf sl).masters = s.masters ∧
    (s.releaseBanksOf sl).releaseQueue = s.releaseQueue ∧ (s.releaseBanksOf sl).removalReports = s.removalReports ∧
    (s.releaseBanksOf sl).dir = s.dir ∧ (s.releaseBanksOf sl).raster = s.raster ∧ (s.releaseBanksOf sl).seq = s.seq ∧
    (s.releaseBanksOf sl).motion = s.motion ∧ (s.releaseBanksOf sl).dose = s.dose ∧ (s.releaseBanksOf sl).link = s.link ∧
    (s.releaseBanksOf sl).answer = s.answer := by
  simp [State.releaseBanksOf]

@[simp] theorem State.releaseRecordBank_keeps (s : State) (h : Handle) (id : BankId) :
    (s.releaseRecordBank h id).pending = s.pending ∧ (s.releaseRecordBank h id).pins = s.pins ∧
    (s.releaseRecordBank h id).sup = s.sup ∧ (s.releaseRecordBank h id).plates = s.plates ∧
    (s.releaseRecordBank h id).masters = s.masters ∧ (s.releaseRecordBank h id).releaseQueue = s.releaseQueue ∧
    (s.releaseRecordBank h id).removalReports = s.removalReports ∧ (s.releaseRecordBank h id).dir = s.dir ∧
    (s.releaseRecordBank h id).raster = s.raster ∧ (s.releaseRecordBank h id).seq = s.seq ∧
    (s.releaseRecordBank h id).motion = s.motion ∧ (s.releaseRecordBank h id).dose = s.dose ∧
    (s.releaseRecordBank h id).link = s.link ∧ (s.releaseRecordBank h id).answer = s.answer := by
  unfold State.releaseRecordBank; split <;> simp

@[simp] theorem State.releaseRecordBanks_keeps (s : State) (h : Handle) :
    (s.releaseRecordBanks h).pending = s.pending ∧ (s.releaseRecordBanks h).pins = s.pins ∧
    (s.releaseRecordBanks h).sup = s.sup ∧ (s.releaseRecordBanks h).plates = s.plates ∧
    (s.releaseRecordBanks h).masters = s.masters ∧ (s.releaseRecordBanks h).releaseQueue = s.releaseQueue ∧
    (s.releaseRecordBanks h).removalReports = s.removalReports ∧ (s.releaseRecordBanks h).dir = s.dir ∧
    (s.releaseRecordBanks h).raster = s.raster ∧ (s.releaseRecordBanks h).seq = s.seq ∧
    (s.releaseRecordBanks h).motion = s.motion ∧ (s.releaseRecordBanks h).dose = s.dose ∧
    (s.releaseRecordBanks h).link = s.link ∧ (s.releaseRecordBanks h).answer = s.answer := by
  simp [State.releaseRecordBanks]

@[simp] theorem State.releaseBinding_keeps (s : State) (b : Binding) :
    (s.releaseBinding b).pending = s.pending ∧ (s.releaseBinding b).pins = s.pins ∧ (s.releaseBinding b).sup = s.sup ∧
    (s.releaseBinding b).plates = s.plates ∧ (s.releaseBinding b).releaseQueue = s.releaseQueue ∧
    (s.releaseBinding b).removalReports = s.removalReports ∧ (s.releaseBinding b).raster = s.raster ∧
    (s.releaseBinding b).panel = s.panel ∧ (s.releaseBinding b).seq = s.seq ∧ (s.releaseBinding b).motion = s.motion ∧
    (s.releaseBinding b).dose = s.dose ∧ (s.releaseBinding b).link = s.link ∧ (s.releaseBinding b).answer = s.answer := by
  unfold State.releaseBinding; split <;> (try split) <;> simp

@[simp] theorem State.deleteRecord_keeps (s : State) (r : Record) (c : Option CellState) :
    (s.deleteRecord r c).pending = s.pending ∧ (s.deleteRecord r c).pins = s.pins ∧ (s.deleteRecord r c).sup = s.sup ∧
    (s.deleteRecord r c).plates = s.plates ∧ (s.deleteRecord r c).releaseQueue = s.releaseQueue ∧
    (s.deleteRecord r c).removalReports = s.removalReports ∧ (s.deleteRecord r c).raster = s.raster ∧
    (s.deleteRecord r c).panel = s.panel ∧ (s.deleteRecord r c).seq = s.seq ∧ (s.deleteRecord r c).motion = s.motion ∧
    (s.deleteRecord r c).dose = s.dose ∧ (s.deleteRecord r c).link = s.link ∧ (s.deleteRecord r c).answer = s.answer := by
  cases c <;> simp [State.deleteRecord]

@[simp] theorem State.retireRecord_keeps (s : State) (r : Record) :
    (s.retireRecord r).pending = s.pending ∧ (s.retireRecord r).pins = s.pins ∧ (s.retireRecord r).sup = s.sup ∧
    (s.retireRecord r).plates = s.plates ∧ (s.retireRecord r).releaseQueue = s.releaseQueue ∧
    (s.retireRecord r).removalReports = s.removalReports ∧ (s.retireRecord r).raster = s.raster ∧
    (s.retireRecord r).seq = s.seq ∧ (s.retireRecord r).motion = s.motion ∧ (s.retireRecord r).dose = s.dose ∧
    (s.retireRecord r).link = s.link ∧ (s.retireRecord r).answer = s.answer := by
  unfold State.retireRecord; split <;> simp

@[simp] theorem State.removeLivePlate_keeps (s : State) (sl : Slot) :
    (s.removeLivePlate sl).pending = s.pending ∧ (s.removeLivePlate sl).pins = s.pins ∧
    (s.removeLivePlate sl).plates = s.plates ∧ (s.removeLivePlate sl).releaseQueue = s.releaseQueue ∧
    (s.removeLivePlate sl).raster = s.raster ∧ (s.removeLivePlate sl).seq = s.seq ∧ (s.removeLivePlate sl).motion = s.motion ∧
    (s.removeLivePlate sl).dose = s.dose ∧ (s.removeLivePlate sl).link = s.link ∧ (s.removeLivePlate sl).answer = s.answer := by
  simp [State.removeLivePlate]

@[simp] theorem State.enterReleasing_keeps (s : State) (sl : Slot) :
    (s.enterReleasing sl).pending = s.pending ∧ (s.enterReleasing sl).pins = s.pins ∧ (s.enterReleasing sl).sup = s.sup ∧
    (s.enterReleasing sl).plates = s.plates ∧ (s.enterReleasing sl).removalReports = s.removalReports ∧
    (s.enterReleasing sl).seq = s.seq ∧ (s.enterReleasing sl).motion = s.motion ∧ (s.enterReleasing sl).dose = s.dose ∧
    (s.enterReleasing sl).link = s.link ∧ (s.enterReleasing sl).answer = s.answer := by
  simp [State.enterReleasing]

@[simp] theorem State.takeHeader_keeps (s : State) :
    (s.takeHeader).pending = s.pending ∧ (s.takeHeader).pins = s.pins ∧ (s.takeHeader).sup = s.sup ∧
    (s.takeHeader).plates = s.plates ∧ (s.takeHeader).masters = s.masters ∧ (s.takeHeader).releaseQueue = s.releaseQueue ∧
    (s.takeHeader).removalReports = s.removalReports ∧ (s.takeHeader).dir = s.dir ∧ (s.takeHeader).panel = s.panel ∧
    (s.takeHeader).seq = s.seq ∧ (s.takeHeader).motion = s.motion ∧ (s.takeHeader).dose = s.dose ∧
    (s.takeHeader).link = s.link ∧ (s.takeHeader).answer = s.answer := by
  unfold State.takeHeader; split <;> simp

@[simp] theorem State.bindOwner_keeps (s : State) (id : BankId) (b : Binding) :
    (s.bindOwner id b).pending = s.pending ∧ (s.bindOwner id b).pins = s.pins ∧ (s.bindOwner id b).sup = s.sup ∧
    (s.bindOwner id b).plates = s.plates ∧ (s.bindOwner id b).releaseQueue = s.releaseQueue ∧
    (s.bindOwner id b).removalReports = s.removalReports ∧ (s.bindOwner id b).raster = s.raster ∧
    (s.bindOwner id b).panel = s.panel ∧ (s.bindOwner id b).seq = s.seq ∧ (s.bindOwner id b).motion = s.motion ∧
    (s.bindOwner id b).dose = s.dose ∧ (s.bindOwner id b).link = s.link ∧ (s.bindOwner id b).answer = s.answer := by
  unfold State.bindOwner; split <;> (try split) <;> simp

@[simp] theorem State.bindHeader_keeps (s : State) (id : BankId) (b : Binding) (h : Header) :
    (s.bindHeader id b h).pending = s.pending ∧ (s.bindHeader id b h).pins = s.pins ∧ (s.bindHeader id b h).sup = s.sup ∧
    (s.bindHeader id b h).plates = s.plates ∧ (s.bindHeader id b h).releaseQueue = s.releaseQueue ∧
    (s.bindHeader id b h).removalReports = s.removalReports ∧ (s.bindHeader id b h).seq = s.seq ∧
    (s.bindHeader id b h).motion = s.motion ∧ (s.bindHeader id b h).dose = s.dose ∧ (s.bindHeader id b h).link = s.link ∧
    (s.bindHeader id b h).answer = s.answer := by
  simp [State.bindHeader]

@[simp] theorem State.settleHeader_keeps (s : State) (id : BankId) (h : Header) (v : Verdict) :
    (s.settleHeader id h v).pending = s.pending ∧ (s.settleHeader id h v).pins = s.pins ∧
    (s.settleHeader id h v).plates = s.plates ∧ (s.settleHeader id h v).releaseQueue = s.releaseQueue ∧
    (s.settleHeader id h v).removalReports = s.removalReports ∧ (s.settleHeader id h v).seq = s.seq ∧
    (s.settleHeader id h v).motion = s.motion ∧ (s.settleHeader id h v).dose = s.dose ∧
    (s.settleHeader id h v).link = s.link ∧ (s.settleHeader id h v).answer = s.answer := by
  cases v <;> simp [State.settleHeader]

@[simp] theorem State.examineHeader_keeps (s : State) :
    (s.examineHeader).pending = s.pending ∧ (s.examineHeader).pins = s.pins ∧ (s.examineHeader).plates = s.plates ∧
    (s.examineHeader).releaseQueue = s.releaseQueue ∧ (s.examineHeader).removalReports = s.removalReports ∧
    (s.examineHeader).seq = s.seq ∧ (s.examineHeader).motion = s.motion ∧ (s.examineHeader).dose = s.dose ∧
    (s.examineHeader).link = s.link ∧ (s.examineHeader).answer = s.answer := by
  unfold State.examineHeader; split <;> (try split) <;> simp

@[simp] theorem State.moveFill_keeps (s : State) (f : Fill) :
    (s.moveFill f).pending = s.pending ∧ (s.moveFill f).pins = s.pins ∧ (s.moveFill f).sup = s.sup ∧
    (s.moveFill f).plates = s.plates ∧ (s.moveFill f).masters = s.masters ∧ (s.moveFill f).releaseQueue = s.releaseQueue ∧
    (s.moveFill f).removalReports = s.removalReports ∧ (s.moveFill f).dir = s.dir ∧ (s.moveFill f).seq = s.seq ∧
    (s.moveFill f).motion = s.motion ∧ (s.moveFill f).dose = s.dose ∧ (s.moveFill f).link = s.link ∧
    (s.moveFill f).answer = s.answer := by
  simp [State.moveFill]

@[simp] theorem State.consume_keeps (s : State) :
    (s.consume).pending = s.pending ∧ (s.consume).pins = s.pins ∧ (s.consume).sup = s.sup ∧ (s.consume).plates = s.plates ∧
    (s.consume).masters = s.masters ∧ (s.consume).releaseQueue = s.releaseQueue ∧
    (s.consume).removalReports = s.removalReports ∧ (s.consume).dir = s.dir ∧ (s.consume).seq = s.seq ∧
    (s.consume).motion = s.motion ∧ (s.consume).dose = s.dose ∧ (s.consume).link = s.link ∧ (s.consume).answer = s.answer := by
  unfold State.consume; split <;> simp

@[simp] theorem State.streamGo_keeps (s : State) :
    (s.streamGo).pending = s.pending ∧ (s.streamGo).pins = s.pins ∧ (s.streamGo).plates = s.plates ∧
    (s.streamGo).releaseQueue = s.releaseQueue ∧ (s.streamGo).removalReports = s.removalReports ∧ (s.streamGo).seq = s.seq ∧
    (s.streamGo).motion = s.motion ∧ (s.streamGo).dose = s.dose ∧ (s.streamGo).link = s.link ∧
    (s.streamGo).answer = s.answer := by
  simp [State.streamGo]

@[simp] theorem State.settleFill_keeps (s : State) (f : Fill) :
    (s.settleFill f).pending = s.pending ∧ (s.settleFill f).pins = s.pins ∧ (s.settleFill f).plates = s.plates ∧
    (s.settleFill f).releaseQueue = s.releaseQueue ∧ (s.settleFill f).removalReports = s.removalReports ∧
    (s.settleFill f).seq = s.seq ∧ (s.settleFill f).motion = s.motion ∧ (s.settleFill f).dose = s.dose ∧
    (s.settleFill f).link = s.link ∧ (s.settleFill f).answer = s.answer := by
  unfold State.settleFill; split <;> (try split) <;> (try split) <;> (try split) <;> simp

@[simp] theorem State.finishFill_keeps (s : State) (f : Fill) (w : Word) (r : List Word) :
    (s.finishFill f w r).pending = s.pending ∧ (s.finishFill f w r).pins = s.pins ∧ (s.finishFill f w r).plates = s.plates ∧
    (s.finishFill f w r).releaseQueue = s.releaseQueue ∧ (s.finishFill f w r).removalReports = s.removalReports ∧
    (s.finishFill f w r).seq = s.seq ∧ (s.finishFill f w r).motion = s.motion ∧ (s.finishFill f w r).dose = s.dose ∧
    (s.finishFill f w r).link = s.link ∧ (s.finishFill f w r).answer = s.answer := by
  simp [State.finishFill]

@[simp] theorem State.turnOutbound_keeps (s : State) :
    (s.turnOutbound).pending = s.pending ∧ (s.turnOutbound).pins = s.pins ∧ (s.turnOutbound).sup = s.sup ∧
    (s.turnOutbound).plates = s.plates ∧ (s.turnOutbound).masters = s.masters ∧
    (s.turnOutbound).releaseQueue = s.releaseQueue ∧ (s.turnOutbound).removalReports = s.removalReports ∧
    (s.turnOutbound).dir = s.dir ∧ (s.turnOutbound).panel = s.panel ∧ (s.turnOutbound).seq = s.seq ∧
    (s.turnOutbound).motion = s.motion ∧ (s.turnOutbound).dose = s.dose ∧ (s.turnOutbound).link = s.link ∧
    (s.turnOutbound).answer = s.answer := by
  unfold State.turnOutbound; split <;> simp

@[simp] theorem State.beginListing_keeps (s : State) :
    (s.beginListing).pending = s.pending ∧ (s.beginListing).pins = s.pins ∧ (s.beginListing).sup = s.sup ∧
    (s.beginListing).plates = s.plates ∧ (s.beginListing).masters = s.masters ∧
    (s.beginListing).releaseQueue = s.releaseQueue ∧ (s.beginListing).removalReports = s.removalReports ∧
    (s.beginListing).dir = s.dir ∧ (s.beginListing).panel = s.panel ∧ (s.beginListing).seq = s.seq ∧
    (s.beginListing).motion = s.motion ∧ (s.beginListing).dose = s.dose ∧ (s.beginListing).link = s.link ∧
    (s.beginListing).answer = s.answer := by
  unfold State.beginListing; split <;> (try split) <;> simp

@[simp] theorem State.turnAndList_keeps (s : State) :
    (s.turnAndList).pending = s.pending ∧ (s.turnAndList).pins = s.pins ∧ (s.turnAndList).sup = s.sup ∧
    (s.turnAndList).plates = s.plates ∧ (s.turnAndList).masters = s.masters ∧ (s.turnAndList).releaseQueue = s.releaseQueue ∧
    (s.turnAndList).removalReports = s.removalReports ∧ (s.turnAndList).dir = s.dir ∧ (s.turnAndList).panel = s.panel ∧
    (s.turnAndList).seq = s.seq ∧ (s.turnAndList).motion = s.motion ∧ (s.turnAndList).dose = s.dose ∧
    (s.turnAndList).link = s.link ∧ (s.turnAndList).answer = s.answer := by
  simp [State.turnAndList]

@[simp] theorem State.abandonListing_keeps (s : State) :
    (s.abandonListing).pending = s.pending ∧ (s.abandonListing).pins = s.pins ∧ (s.abandonListing).sup = s.sup ∧
    (s.abandonListing).plates = s.plates ∧ (s.abandonListing).masters = s.masters ∧
    (s.abandonListing).releaseQueue = s.releaseQueue ∧ (s.abandonListing).removalReports = s.removalReports ∧
    (s.abandonListing).dir = s.dir ∧ (s.abandonListing).panel = s.panel ∧ (s.abandonListing).seq = s.seq ∧
    (s.abandonListing).motion = s.motion ∧ (s.abandonListing).dose = s.dose ∧ (s.abandonListing).link = s.link ∧
    (s.abandonListing).answer = s.answer := by
  unfold State.abandonListing; split <;> simp

@[simp] theorem State.abandonFill_keeps (s : State) :
    (s.abandonFill).pending = s.pending ∧ (s.abandonFill).pins = s.pins ∧ (s.abandonFill).plates = s.plates ∧
    (s.abandonFill).releaseQueue = s.releaseQueue ∧ (s.abandonFill).removalReports = s.removalReports ∧
    (s.abandonFill).seq = s.seq ∧ (s.abandonFill).motion = s.motion ∧ (s.abandonFill).dose = s.dose ∧
    (s.abandonFill).link = s.link ∧ (s.abandonFill).answer = s.answer := by
  unfold State.abandonFill; split <;> (try split) <;> simp

@[simp] theorem State.flushPort_keeps (s : State) :
    (s.flushPort).pending = s.pending ∧ (s.flushPort).pins = s.pins ∧ (s.flushPort).plates = s.plates ∧
    (s.flushPort).releaseQueue = s.releaseQueue ∧ (s.flushPort).removalReports = s.removalReports ∧
    (s.flushPort).seq = s.seq ∧ (s.flushPort).motion = s.motion ∧ (s.flushPort).dose = s.dose ∧ (s.flushPort).link = s.link ∧
    (s.flushPort).answer = s.answer := by
  simp [State.flushPort]

@[simp] theorem State.nextWordOut_keeps (s : State) (r : List Word) :
    (s.nextWordOut r).pending = s.pending ∧ (s.nextWordOut r).pins = s.pins ∧ (s.nextWordOut r).sup = s.sup ∧
    (s.nextWordOut r).plates = s.plates ∧ (s.nextWordOut r).masters = s.masters ∧
    (s.nextWordOut r).releaseQueue = s.releaseQueue ∧ (s.nextWordOut r).removalReports = s.removalReports ∧
    (s.nextWordOut r).dir = s.dir ∧ (s.nextWordOut r).panel = s.panel ∧ (s.nextWordOut r).seq = s.seq ∧
    (s.nextWordOut r).motion = s.motion ∧ (s.nextWordOut r).dose = s.dose ∧ (s.nextWordOut r).link = s.link ∧
    (s.nextWordOut r).answer = s.answer := by
  unfold State.nextWordOut; dsimp only; (repeat' split) <;> simp

@[simp] theorem State.takeRecord_keeps (s : State) (k : JobKind) (c : Bool) :
    (s.takeRecord k c).pending = s.pending ∧ (s.takeRecord k c).pins = s.pins ∧ (s.takeRecord k c).sup = s.sup ∧
    (s.takeRecord k c).plates = s.plates ∧ (s.takeRecord k c).masters = s.masters ∧
    (s.takeRecord k c).releaseQueue = s.releaseQueue ∧ (s.takeRecord k c).removalReports = s.removalReports ∧
    (s.takeRecord k c).raster = s.raster ∧ (s.takeRecord k c).panel = s.panel ∧ (s.takeRecord k c).seq = s.seq ∧
    (s.takeRecord k c).motion = s.motion ∧ (s.takeRecord k c).dose = s.dose ∧ (s.takeRecord k c).link = s.link ∧
    (s.takeRecord k c).answer = s.answer := by
  unfold State.takeRecord; split <;> (try split) <;> simp

@[simp] theorem State.takeJobOf_keeps (s : State) (id : BankId) (r : List BankId) (k : JobKind) (sl : Slot) (n : Nat) (f : Format) :
    (s.takeJobOf id r k sl n f).pending = s.pending ∧ (s.takeJobOf id r k sl n f).pins = s.pins ∧
    (s.takeJobOf id r k sl n f).sup = s.sup ∧ (s.takeJobOf id r k sl n f).plates = s.plates ∧
    (s.takeJobOf id r k sl n f).masters = s.masters ∧ (s.takeJobOf id r k sl n f).releaseQueue = s.releaseQueue ∧
    (s.takeJobOf id r k sl n f).removalReports = s.removalReports ∧ (s.takeJobOf id r k sl n f).raster = s.raster ∧
    (s.takeJobOf id r k sl n f).dose = s.dose ∧ (s.takeJobOf id r k sl n f).link = s.link ∧
    (s.takeJobOf id r k sl n f).answer = s.answer := by
  simp [State.takeJobOf]

@[simp] theorem State.takeJob_keeps (s : State) :
    (s.takeJob).pending = s.pending ∧ (s.takeJob).pins = s.pins ∧ (s.takeJob).sup = s.sup ∧ (s.takeJob).plates = s.plates ∧
    (s.takeJob).masters = s.masters ∧ (s.takeJob).releaseQueue = s.releaseQueue ∧
    (s.takeJob).removalReports = s.removalReports ∧ (s.takeJob).raster = s.raster ∧ (s.takeJob).dose = s.dose ∧
    (s.takeJob).link = s.link ∧ (s.takeJob).answer = s.answer := by
  unfold State.takeJob; (repeat' split) <;> simp

@[simp] theorem State.afterRaster_keeps (s : State) :
    (s.afterRaster).pending = s.pending ∧ (s.afterRaster).pins = s.pins ∧ (s.afterRaster).plates = s.plates ∧
    (s.afterRaster).releaseQueue = s.releaseQueue ∧ (s.afterRaster).removalReports = s.removalReports ∧
    (s.afterRaster).dose = s.dose ∧ (s.afterRaster).link = s.link ∧ (s.afterRaster).answer = s.answer := by
  simp [State.afterRaster]

@[simp] theorem State.writeOpenTime_keeps (s : State) (j : Job) (n : Nat) :
    (s.writeOpenTime j n).pending = s.pending ∧ (s.writeOpenTime j n).pins = s.pins ∧ (s.writeOpenTime j n).sup = s.sup ∧
    (s.writeOpenTime j n).plates = s.plates ∧ (s.writeOpenTime j n).masters = s.masters ∧
    (s.writeOpenTime j n).releaseQueue = s.releaseQueue ∧ (s.writeOpenTime j n).removalReports = s.removalReports ∧
    (s.writeOpenTime j n).raster = s.raster ∧ (s.writeOpenTime j n).panel = s.panel ∧ (s.writeOpenTime j n).seq = s.seq ∧
    (s.writeOpenTime j n).motion = s.motion ∧ (s.writeOpenTime j n).dose = s.dose ∧ (s.writeOpenTime j n).link = s.link ∧
    (s.writeOpenTime j n).answer = s.answer := by
  unfold State.writeOpenTime; (repeat' split) <;> simp

@[simp] theorem State.recordExposed_keeps (s : State) (h : Handle) :
    (s.recordExposed h).pending = s.pending ∧ (s.recordExposed h).pins = s.pins ∧ (s.recordExposed h).sup = s.sup ∧
    (s.recordExposed h).plates = s.plates ∧ (s.recordExposed h).releaseQueue = s.releaseQueue ∧
    (s.recordExposed h).removalReports = s.removalReports ∧ (s.recordExposed h).raster = s.raster ∧
    (s.recordExposed h).panel = s.panel ∧ (s.recordExposed h).seq = s.seq ∧ (s.recordExposed h).motion = s.motion ∧
    (s.recordExposed h).dose = s.dose ∧ (s.recordExposed h).link = s.link ∧ (s.recordExposed h).answer = s.answer := by
  unfold State.recordExposed; split <;> simp

@[simp] theorem State.recordSpoiled_keeps (s : State) (h : Handle) :
    (s.recordSpoiled h).pending = s.pending ∧ (s.recordSpoiled h).pins = s.pins ∧ (s.recordSpoiled h).sup = s.sup ∧
    (s.recordSpoiled h).plates = s.plates ∧ (s.recordSpoiled h).releaseQueue = s.releaseQueue ∧
    (s.recordSpoiled h).removalReports = s.removalReports ∧ (s.recordSpoiled h).raster = s.raster ∧
    (s.recordSpoiled h).panel = s.panel ∧ (s.recordSpoiled h).seq = s.seq ∧ (s.recordSpoiled h).motion = s.motion ∧
    (s.recordSpoiled h).dose = s.dose ∧ (s.recordSpoiled h).link = s.link ∧ (s.recordSpoiled h).answer = s.answer := by
  unfold State.recordSpoiled; (repeat' split) <;> simp

@[simp] theorem State.recordReturned_keeps (s : State) (id : BankId) (h : Handle) :
    (s.recordReturned id h).pending = s.pending ∧ (s.recordReturned id h).pins = s.pins ∧
    (s.recordReturned id h).sup = s.sup ∧ (s.recordReturned id h).plates = s.plates ∧
    (s.recordReturned id h).releaseQueue = s.releaseQueue ∧ (s.recordReturned id h).removalReports = s.removalReports ∧
    (s.recordReturned id h).raster = s.raster ∧ (s.recordReturned id h).seq = s.seq ∧
    (s.recordReturned id h).motion = s.motion ∧ (s.recordReturned id h).dose = s.dose ∧
    (s.recordReturned id h).link = s.link ∧ (s.recordReturned id h).answer = s.answer := by
  unfold State.recordReturned; (repeat' split) <;> simp

@[simp] theorem State.spoilMaster_keeps (s : State) (sl : Slot) (w : FailureReason) :
    (s.spoilMaster sl w).pending = s.pending ∧ (s.spoilMaster sl w).pins = s.pins ∧ (s.spoilMaster sl w).sup = s.sup ∧
    (s.spoilMaster sl w).plates = s.plates ∧ (s.spoilMaster sl w).releaseQueue = s.releaseQueue ∧
    (s.spoilMaster sl w).removalReports = s.removalReports ∧ (s.spoilMaster sl w).dir = s.dir ∧
    (s.spoilMaster sl w).raster = s.raster ∧ (s.spoilMaster sl w).seq = s.seq ∧ (s.spoilMaster sl w).motion = s.motion ∧
    (s.spoilMaster sl w).dose = s.dose ∧ (s.spoilMaster sl w).link = s.link ∧ (s.spoilMaster sl w).answer = s.answer := by
  unfold State.spoilMaster; split <;> simp

@[simp] theorem State.ownersExposed_keeps (s : State) (j : Job) :
    (s.ownersExposed j).pending = s.pending ∧ (s.ownersExposed j).pins = s.pins ∧ (s.ownersExposed j).sup = s.sup ∧
    (s.ownersExposed j).plates = s.plates ∧ (s.ownersExposed j).releaseQueue = s.releaseQueue ∧
    (s.ownersExposed j).removalReports = s.removalReports ∧ (s.ownersExposed j).raster = s.raster ∧
    (s.ownersExposed j).panel = s.panel ∧ (s.ownersExposed j).seq = s.seq ∧ (s.ownersExposed j).motion = s.motion ∧
    (s.ownersExposed j).dose = s.dose ∧ (s.ownersExposed j).link = s.link ∧ (s.ownersExposed j).answer = s.answer := by
  unfold State.ownersExposed; split <;> simp

@[simp] theorem State.ownersSpoiled_keeps (s : State) (j : Job) :
    (s.ownersSpoiled j).pending = s.pending ∧ (s.ownersSpoiled j).pins = s.pins ∧ (s.ownersSpoiled j).sup = s.sup ∧
    (s.ownersSpoiled j).plates = s.plates ∧ (s.ownersSpoiled j).releaseQueue = s.releaseQueue ∧
    (s.ownersSpoiled j).removalReports = s.removalReports ∧ (s.ownersSpoiled j).raster = s.raster ∧
    (s.ownersSpoiled j).seq = s.seq ∧ (s.ownersSpoiled j).motion = s.motion ∧ (s.ownersSpoiled j).dose = s.dose ∧
    (s.ownersSpoiled j).link = s.link ∧ (s.ownersSpoiled j).answer = s.answer := by
  unfold State.ownersSpoiled; split <;> simp

@[simp] theorem State.ownersReturned_keeps (s : State) (j : Job) :
    (s.ownersReturned j).pending = s.pending ∧ (s.ownersReturned j).pins = s.pins ∧ (s.ownersReturned j).sup = s.sup ∧
    (s.ownersReturned j).plates = s.plates ∧ (s.ownersReturned j).releaseQueue = s.releaseQueue ∧
    (s.ownersReturned j).removalReports = s.removalReports ∧ (s.ownersReturned j).raster = s.raster ∧
    (s.ownersReturned j).seq = s.seq ∧ (s.ownersReturned j).motion = s.motion ∧ (s.ownersReturned j).dose = s.dose ∧
    (s.ownersReturned j).link = s.link ∧ (s.ownersReturned j).answer = s.answer := by
  unfold State.ownersReturned; split <;> simp

@[simp] theorem State.endExposed_keeps (s : State) (j : Job) (n : Nat) :
    (s.endExposed j n).pending = s.pending ∧ (s.endExposed j n).pins = s.pins ∧ (s.endExposed j n).plates = s.plates ∧
    (s.endExposed j n).releaseQueue = s.releaseQueue ∧ (s.endExposed j n).removalReports = s.removalReports ∧
    (s.endExposed j n).link = s.link ∧ (s.endExposed j n).answer = s.answer := by
  simp [State.endExposed]

@[simp] theorem State.endSpoiled_keeps (s : State) (j : Job) (n : Nat) (p : PathState) (w : PathFault) :
    (s.endSpoiled j n p w).pending = s.pending ∧ (s.endSpoiled j n p w).pins = s.pins ∧
    (s.endSpoiled j n p w).plates = s.plates ∧ (s.endSpoiled j n p w).releaseQueue = s.releaseQueue ∧
    (s.endSpoiled j n p w).removalReports = s.removalReports ∧ (s.endSpoiled j n p w).motion = s.motion ∧
    (s.endSpoiled j n p w).link = s.link ∧ (s.endSpoiled j n p w).answer = s.answer := by
  simp [State.endSpoiled]

@[simp] theorem State.endReturned_keeps (s : State) (j : Job) (n : Nat) (p : PathState) (w : PathFault) :
    (s.endReturned j n p w).pending = s.pending ∧ (s.endReturned j n p w).pins = s.pins ∧
    (s.endReturned j n p w).plates = s.plates ∧ (s.endReturned j n p w).releaseQueue = s.releaseQueue ∧
    (s.endReturned j n p w).removalReports = s.removalReports ∧ (s.endReturned j n p w).motion = s.motion ∧
    (s.endReturned j n p w).link = s.link ∧ (s.endReturned j n p w).answer = s.answer := by
  simp [State.endReturned]

@[simp] theorem State.endPreparing_keeps (s : State) (j : Job) (p : PathState) (w : PathFault) :
    (s.endPreparing j p w).pending = s.pending ∧ (s.endPreparing j p w).pins = s.pins ∧
    (s.endPreparing j p w).plates = s.plates ∧ (s.endPreparing j p w).releaseQueue = s.releaseQueue ∧
    (s.endPreparing j p w).removalReports = s.removalReports ∧ (s.endPreparing j p w).dose = s.dose ∧
    (s.endPreparing j p w).link = s.link ∧ (s.endPreparing j p w).answer = s.answer := by
  simp [State.endPreparing]

@[simp] theorem State.endRemoved_keeps (s : State) (j : Job) :
    (s.endRemoved j).pending = s.pending ∧ (s.endRemoved j).pins = s.pins ∧ (s.endRemoved j).plates = s.plates ∧
    (s.endRemoved j).releaseQueue = s.releaseQueue ∧ (s.endRemoved j).removalReports = s.removalReports ∧
    (s.endRemoved j).link = s.link ∧ (s.endRemoved j).answer = s.answer := by
  unfold State.endRemoved; dsimp only; split <;> simp

@[simp] theorem State.tryOpen_keeps (s : State) :
    (s.tryOpen).pending = s.pending ∧ (s.tryOpen).pins = s.pins ∧ (s.tryOpen).plates = s.plates ∧
    (s.tryOpen).releaseQueue = s.releaseQueue ∧ (s.tryOpen).removalReports = s.removalReports ∧ (s.tryOpen).link = s.link ∧
    (s.tryOpen).answer = s.answer := by
  unfold State.tryOpen; (repeat' split) <;> simp

@[simp] theorem State.reportArrived_keeps (s : State) :
    (s.reportArrived).pending = s.pending ∧ (s.reportArrived).pins = s.pins ∧ (s.reportArrived).plates = s.plates ∧
    (s.reportArrived).releaseQueue = s.releaseQueue ∧ (s.reportArrived).removalReports = s.removalReports ∧
    (s.reportArrived).link = s.link ∧ (s.reportArrived).answer = s.answer := by
  unfold State.reportArrived; split <;> simp

@[simp] theorem State.reportPanelReady_keeps (s : State) :
    (s.reportPanelReady).pending = s.pending ∧ (s.reportPanelReady).pins = s.pins ∧ (s.reportPanelReady).plates = s.plates ∧
    (s.reportPanelReady).releaseQueue = s.releaseQueue ∧ (s.reportPanelReady).removalReports = s.removalReports ∧
    (s.reportPanelReady).link = s.link ∧ (s.reportPanelReady).answer = s.answer := by
  unfold State.reportPanelReady; split <;> simp

@[simp] theorem State.preparationFault_keeps (s : State) (w : PathFault) :
    (s.preparationFault w).pending = s.pending ∧ (s.preparationFault w).pins = s.pins ∧
    (s.preparationFault w).plates = s.plates ∧ (s.preparationFault w).releaseQueue = s.releaseQueue ∧
    (s.preparationFault w).removalReports = s.removalReports ∧ (s.preparationFault w).link = s.link ∧
    (s.preparationFault w).answer = s.answer := by
  unfold State.preparationFault; (repeat' split) <;> simp

@[simp] theorem State.endShort_keeps (s : State) (j : Job) (n : Nat) (p : PathState) (w : PathFault) (p' : PathState) (w' : PathFault) :
    (s.endShort j n p w p' w').pending = s.pending ∧ (s.endShort j n p w p' w').pins = s.pins ∧
    (s.endShort j n p w p' w').plates = s.plates ∧ (s.endShort j n p w p' w').releaseQueue = s.releaseQueue ∧
    (s.endShort j n p w p' w').removalReports = s.removalReports ∧ (s.endShort j n p w p' w').link = s.link ∧
    (s.endShort j n p w p' w').answer = s.answer := by
  unfold State.endShort; split <;> simp

@[simp] theorem State.reachTarget_keeps (s : State) (j : Job) (n : Nat) :
    (s.reachTarget j n).pending = s.pending ∧ (s.reachTarget j n).pins = s.pins ∧ (s.reachTarget j n).plates = s.plates ∧
    (s.reachTarget j n).releaseQueue = s.releaseQueue ∧ (s.reachTarget j n).removalReports = s.removalReports ∧
    (s.reachTarget j n).link = s.link ∧ (s.reachTarget j n).answer = s.answer := by
  unfold State.reachTarget; split <;> simp

@[simp] theorem State.attentionPath_keeps (s : State) (n : Nat) :
    (s.attentionPath n).pending = s.pending ∧ (s.attentionPath n).pins = s.pins ∧ (s.attentionPath n).plates = s.plates ∧
    (s.attentionPath n).releaseQueue = s.releaseQueue ∧ (s.attentionPath n).removalReports = s.removalReports ∧
    (s.attentionPath n).link = s.link ∧ (s.attentionPath n).answer = s.answer := by
  unfold State.attentionPath; (repeat' split) <;> simp

@[simp] theorem State.pulse_keeps (s : State) (n : Nat) :
    (s.pulse n).pending = s.pending ∧ (s.pulse n).pins = s.pins ∧ (s.pulse n).plates = s.plates ∧
    (s.pulse n).releaseQueue = s.releaseQueue ∧ (s.pulse n).removalReports = s.removalReports ∧ (s.pulse n).link = s.link ∧
    (s.pulse n).answer = s.answer := by
  unfold State.pulse; (repeat' split) <;> simp

end Sys2Proof.Machine
end

