-- ==== Sys2Proof/Laws/Operations.lean ====
section
/-! SUPPORT. What each shared operation can do, said once: the cases of its result, for the proofs that cite them in place of its definition. -/

namespace Sys2Proof.Machine

/-- A guarded effect acts outside a reset and does nothing in one. -/
theorem State.whileRunning_cases (s : State) (f : State → State) :
    (s.sup.phase = .running ∧ s.whileRunning f = f s) ∨ (s.sup.phase ≠ .running ∧ s.whileRunning f = s) := by
  unfold State.whileRunning; split
  · exact .inl ⟨‹_›, rfl⟩
  · exact .inr ⟨‹_›, rfl⟩

@[simp] theorem State.whileRunning_of_running (s : State) (f : State → State) (h : s.sup.phase = .running) :
    s.whileRunning f = f s := by simp [State.whileRunning, h]

/-- A request is delivered from REQUEST outside a reset, and changes nothing elsewhere. -/
theorem State.request_cases (s : State) (dst : Addressing) (code : Byte) (unit : State → Answer) :
    (s.sup.phase = .running ∧ s.link.iface = .request ∧ s.request dst code unit = (unit s).deliver dst code) ∨
      (¬ (s.sup.phase = .running ∧ s.link.iface = .request) ∧ s.request dst code unit = s) := by
  unfold State.request State.whileRunning
  by_cases h1 : s.sup.phase = .running <;> by_cases h2 : s.link.iface = .request <;> simp [h1, h2]

theorem State.request_of_request (s : State) (dst : Addressing) (code : Byte) (unit : State → Answer)
    (h1 : s.sup.phase = .running) (h2 : s.link.iface = .request) : s.request dst code unit = (unit s).deliver dst code := by
  simp [State.request, h1, h2]

/-- The dispatch of a request: silence, DENIED, BUSY, or its own checks. -/
theorem dispatch_cases (dst : Addressing) (auth exempt : Bool) (own : State → Answer) (s : State) :
    (dst = .group ∧ dispatch dst auth exempt own s = .silent s) ∨
      (dst = .direct ∧ auth = false ∧ dispatch dst auth exempt own s = .ack s .denied) ∨
      (dst = .direct ∧ auth = true ∧ s.busy = true ∧ exempt = false ∧ dispatch dst auth exempt own s = .ack s .busy) ∨
      (dst = .direct ∧ auth = true ∧ (s.busy = false ∨ exempt = true) ∧ dispatch dst auth exempt own s = own s) := by
  cases dst <;> cases auth <;> cases exempt <;> cases h : s.busy <;> simp [dispatch, h]

/-- The delivery of an answer changes the link interface and the pending answer alone. -/
@[simp] theorem Answer.deliver_keeps (a : Answer) (dst : Addressing) (code : Byte) :
    (a.deliver dst code).pending = a.state.pending ∧ (a.deliver dst code).pins = a.state.pins ∧
    (a.deliver dst code).sup = a.state.sup ∧ (a.deliver dst code).plates = a.state.plates ∧
    (a.deliver dst code).masters = a.state.masters ∧ (a.deliver dst code).releaseQueue = a.state.releaseQueue ∧
    (a.deliver dst code).removalReports = a.state.removalReports ∧ (a.deliver dst code).dir = a.state.dir ∧
    (a.deliver dst code).raster = a.state.raster ∧ (a.deliver dst code).panel = a.state.panel ∧
    (a.deliver dst code).seq = a.state.seq ∧ (a.deliver dst code).motion = a.state.motion ∧
    (a.deliver dst code).dose = a.state.dose := by
  unfold Answer.deliver; split <;> simp

/-- A handle that resolves names a record of the key table, at its entry and with its stamp (R23). -/
theorem State.resolve_some (s : State) (h : Handle) (r : Record) (hr : s.resolve h = some r) :
    r ∈ s.dir.keyTable ∧ r.entry = handleEntry h ∧ s.dir.stamps[handleEntry h] = handleStamp h := by
  unfold State.resolve at hr
  split at hr
  · refine ⟨List.mem_of_find?_eq_some hr, ?_, ‹_›⟩
    simpa using List.find?_some hr
  · cases hr

/-- The records after a deletion from the key table. -/
theorem KeyTable.mem_drop (e : Entry) (t : List Record) (r : Record) : r ∈ KeyTable.drop e t ↔ r ∈ t ∧ r.entry ≠ e := by
  simp [KeyTable.drop]

/-- The records after a filing. -/
theorem KeyTable.mem_file (r x : Record) (t : List Record) : x ∈ KeyTable.file r t ↔ x = r ∨ x ∈ t := by
  induction t with
  | nil => simp [KeyTable.file]
  | cons y rest ih => simp only [KeyTable.file]; split <;> simp [ih] ; tauto

/-- A filing keeps the order of keys (R28). -/
theorem KeyTable.file_sorted (r : Record) (t : List Record) (h : t.Pairwise (fun p q => keyOrder p.key ≤ keyOrder q.key)) :
    (KeyTable.file r t).Pairwise (fun p q => keyOrder p.key ≤ keyOrder q.key) := by
  induction t with
  | nil => simp [KeyTable.file]
  | cons y rest ih =>
    obtain ⟨hy, hr⟩ := List.pairwise_cons.mp h
    simp only [KeyTable.file]
    split
    · rename_i hlt
      refine List.pairwise_cons.mpr ⟨?_, h⟩
      intro q hq
      rcases List.mem_cons.mp hq with rfl | hq
      · omega
      · have := hy q hq; omega
    · rename_i hlt
      refine List.pairwise_cons.mpr ⟨?_, ih hr⟩
      intro q hq
      rcases (KeyTable.mem_file r q rest).mp hq with rfl | hq
      · omega
      · exact hy q hq

/-- A deletion keeps the order of keys (R26.1). -/
theorem KeyTable.drop_sorted (e : Entry) (t : List Record) (h : t.Pairwise (fun p q => keyOrder p.key ≤ keyOrder q.key)) :
    (KeyTable.drop e t).Pairwise (fun p q => keyOrder p.key ≤ keyOrder q.key) := h.filter _

/-- The settled test either changes nothing or makes a CLOSING master SETTLED (R12). -/
theorem State.settleTest_cases (s : State) (sl : Slot) :
    s.settleTest sl = s ∨ ((s.master sl).state = .closing ∧ s.settledCondition sl = true ∧
      s.settleTest sl = s.mapMaster sl (fun m => { m with state := .settled })) := by
  unfold State.settleTest; split
  · rename_i h; exact .inr ⟨h.1, h.2, rfl⟩
  · exact .inl rfl

/-- A job take does nothing, or takes the head of the queue from IDLE with no calibration (R107, R108). -/
theorem State.takeJob_cases (s : State) :
    s.takeJob = s ∨ ∃ id rest kind sl factor f, s.seq.path = .idle ∧ s.dose.calibration = .none ∧ s.panel.queue = id :: rest ∧
      (s.bank id).binding.bind s.jobOf = some (kind, sl, factor) ∧ (s.master sl).fields = some f ∧
      s.takeJob = s.takeJobOf id rest kind sl factor f.format := by
  unfold State.takeJob
  split
  · rename_i h
    split
    · rename_i id rest hq
      split
      · rename_i kind sl factor hj
        split
        · rename_i f hf
          exact .inr ⟨id, rest, kind, sl, factor, f, h.1, h.2, hq, hj, hf, rfl⟩
        · exact .inl rfl
      · exact .inl rfl
    · exact .inl rfl
  · exact .inl rfl

/-- No job is taken while the queue is empty. -/
theorem State.takeJob_of_empty (s : State) (h : s.panel.queue = []) : s.takeJob = s := by
  rcases s.takeJob_cases with h' | ⟨id, rest, _, _, _, _, _, _, hq, _⟩
  · exact h'
  · rw [h] at hq; cases hq

/-- A header is taken only in HEADER with four words in the FIFO (R71). -/
theorem State.takeHeader_cases (s : State) :
    s.takeHeader = s ∨ (s.raster.decoder = .header ∧ 4 ≤ s.raster.fifo.length ∧
      s.takeHeader = { s with raster := { s.raster with decoder := .waitBank } }) := by
  unfold State.takeHeader; split
  · rename_i h; exact .inr ⟨h.1, h.2, rfl⟩
  · exact .inl rfl

/-- A header is examined only in WAIT_BANK with a FREE bank (R72). -/
theorem State.examineHeader_cases (s : State) :
    s.examineHeader = s ∨ ∃ id w0 w1 w2 w3 rest, s.raster.decoder = .waitBank ∧ s.freeBankId? = some id ∧
      s.raster.fifo = w0 :: w1 :: w2 :: w3 :: rest ∧
      s.examineHeader = ({ s with raster := { s.raster with fifo := rest } } : State).settleHeader id (Header.ofWords w0 w1 w2 w3)
        (({ s with raster := { s.raster with fifo := rest } } : State).checkHeader (Header.ofWords w0 w1 w2 w3)) := by
  unfold State.examineHeader
  split
  · rename_i h
    split
    · rename_i id w0 w1 w2 w3 rest hid hf
      exact .inr ⟨id, w0, w1, w2, w3, rest, h, hid, hf, rfl⟩
    · exact .inl rfl
  · exact .inl rfl

/-- A bank that is FREE is in state FREE, and A before B (R76, R93). -/
theorem State.freeBankId?_some (s : State) (id : BankId) (h : s.freeBankId? = some id) : (s.bank id).state = .free := by
  unfold State.freeBankId? at h
  split at h
  · cases h; assumption
  · split at h
    · cases h; assumption
    · cases h

/-- The decoder rests in HEADER while the FIFO holds fewer than four words. -/
theorem State.streamGo_of_header (s : State) (hd : s.raster.decoder = .header) (hf : s.raster.fifo.length < 4) : s.streamGo = s := by
  have h : s.takeHeader = s := by unfold State.takeHeader; rw [if_neg]; omega
  simp [State.streamGo, h, State.examineHeader, State.consume, hd]

/-- The decoder rests in WAIT_BANK while no bank is FREE. -/
theorem State.streamGo_of_waitBank (s : State) (hd : s.raster.decoder = .waitBank) (hb : s.freeBankId? = none) : s.streamGo = s := by
  have h : s.takeHeader = s := by unfold State.takeHeader; rw [if_neg]; simp [hd]
  simp [State.streamGo, h, State.examineHeader, State.consume, hd, hb]

/-- The decoder has nothing to do in LISTING. -/
theorem State.streamGo_of_listing (s : State) (hd : s.raster.decoder = .listing) : s.streamGo = s := by
  have h : s.takeHeader = s := by unfold State.takeHeader; rw [if_neg]; simp [hd]
  simp [State.streamGo, h, State.examineHeader, State.consume, hd]

/-- Words that stand behind a fill's or a drain's last data word wait, and nothing moves. -/
theorem moveData_of_last (f : Fill) (m : List BankCell) (l : List Word) (h : l ≠ [] → f.count + 1 = f.words) : moveData f m l = (f, m, l) := by
  cases l with
  | nil => rfl
  | cons w r => simp [moveData, h]

/-- A bank replaced by itself. -/
@[simp] theorem PanelStore.setBank_bank (p : PanelStore) (id : BankId) : p.setBank id (p.bank id) = p := by cases id <;> rfl

/-- Only in HEADER is a header taken. -/
theorem State.takeHeader_of_ne (s : State) (h : s.raster.decoder ≠ .header) : s.takeHeader = s := by simp [State.takeHeader, h]

/-- Only in WAIT_BANK is a header examined. -/
theorem State.examineHeader_of_ne (s : State) (h : s.raster.decoder ≠ .waitBank) : s.examineHeader = s := by simp [State.examineHeader, h]

/-- Where every word that can be consumed has been, the decoder rests (log entry 5). -/
theorem State.streamGo_of_fits (s : State) (h : s.raster.decoderFits false) : s.streamGo = s := by
  unfold RasterPort.decoderFits at h
  split at h
  · next hd => exact s.streamGo_of_header hd h
  · exact absurd h.2 (by decide)
  · next f hd =>
    have h2 := moveData_of_last f (s.bank f.bank).words s.raster.fifo (fun hn => h.2 hn)
    rw [State.streamGo, s.takeHeader_of_ne (by simp [hd]), s.examineHeader_of_ne (by simp [hd]), State.consume, hd]
    simp only [State.moveFill, h2]
    have h3 : s.setBank f.bank { s.bank f.bank with words := (s.bank f.bank).words } = s := by
      simp only [State.setBank, State.bank]; rw [s.panel.setBank_bank f.bank]
    rw [h3, ← hd]
  · next left hd =>
    have h2 : min (left - 1) s.raster.fifo.length = 0 := by
      by_cases hn : s.raster.fifo = []
      · simp [hn]
      · simp [h.2 hn]
    rw [State.streamGo, s.takeHeader_of_ne (by simp [hd]), s.examineHeader_of_ne (by simp [hd]), State.consume, hd]
    simp only [h2, List.drop_zero, Nat.sub_zero]
    rw [← hd]
  · next hd =>
    rw [State.streamGo, s.takeHeader_of_ne (by simp [hd]), s.examineHeader_of_ne (by simp [hd]), State.consume, hd]
    simp only [← h]
  · next hd => exact s.streamGo_of_listing hd

/-! ## What follows in the same event -/

/-- What the decoder does once a bank may be FREE is the examination of a header that waits (R72, R93). -/
theorem State.thenExamines_streamGo (s : State) (hr : s.sup.phase = .running) (h : s.streamFits) : s.thenExamines s.streamGo := by
  by_cases hd : s.raster.decoder = .waitBank
  · have h1 := s.takeHeader_of_ne (by simp [hd])
    exact ⟨by simp [exec, execHeaderExamination, State.whileRunning, hr, hd, State.streamGo, h1], fun h2 => absurd hd h2⟩
  · have h1 := s.streamGo_of_fits (h.resolve_left hd)
    exact ⟨by simp [exec, execHeaderExamination, State.whileRunning, hd, h1], fun _ => h1⟩

/-- In HEADER what the decoder does is the taking of a header (R71). -/
theorem State.thenTakesHeader_streamGo (s : State) (hr : s.sup.phase = .running) (hd : s.raster.decoder = .header) :
    s.thenTakesHeader s.streamGo :=
  ⟨by simp [exec, execHeaderTaken, State.whileRunning, hr, hd], fun h => s.streamGo_of_header hd h⟩

/-- A job take is JOB_TAKE (R107). -/
theorem State.thenTakes_takeJob (s : State) (hr : s.sup.phase = .running) : s.thenTakes s.takeJob := by
  refine ⟨by simp [exec, execJobTake, State.whileRunning, hr], fun h => ?_⟩
  rcases h with h | h | h
  · simp [State.takeJob, h]
  · simp [State.takeJob, h]
  · exact s.takeJob_of_empty h

/-- The start of a listing is LISTING_BEGIN (R86). -/
theorem State.thenLists_beginListing (s : State) (hr : s.sup.phase = .running) : s.thenLists s.beginListing := by
  refine ⟨by simp [exec, execListingBegin, State.whileRunning, hr], fun h => ?_⟩
  unfold State.beginListing
  split
  · next sl hp =>
    rw [if_neg]
    rintro ⟨ho, hd⟩
    rcases h with h | h | h
    · exact h sl hp
    · simp [ho] at h
    · exact h hd
  · rfl
  · rfl

/-- The direction change with the start of a listing is DIRECTION_OUTBOUND (R85, R86). -/
theorem State.thenTurns_turnAndList (s : State) (hr : s.sup.phase = .running) : s.thenTurns s.turnAndList := by
  refine ⟨by simp [exec, execDirectionOutbound, State.whileRunning, hr], fun h => ?_⟩
  have h1 : s.turnOutbound = s := by
    unfold State.turnOutbound
    rw [if_neg]
    rintro ⟨hp, _, hd, hf, hl⟩
    rcases h with h | ⟨_, h | h | h⟩
    · exact h hd
    · simp [hp] at h
    · exact h hf
    · exact h hl
  rw [State.turnAndList, h1]
  exact (s.thenLists_beginListing hr).2 (h.elim (fun h => .inr (.inr h)) (fun h => .inr (.inl h.1)))

/-! ## The bits of a tail -/

/-- The bits of bytes, eight for each. -/
@[simp] theorem bitsOf_length (bytes : List Byte) : (bitsOf bytes).length = 8 * bytes.length := by
  induction bytes with
  | nil => rfl
  | cons b r ih => simp only [bitsOf, List.flatMap_cons, List.length_append, List.length_cons, List.length_nil] at ih ⊢; omega

/-- Each byte goes out with its most significant bit first (R165). -/
theorem bitsOf_getElem? (bytes : List Byte) (n : Nat) : (bitsOf bytes)[n]? = (bytes[n / 8]?).map (fun b => b.getLsbD (7 - n % 8)) := by
  induction bytes generalizing n with
  | nil => simp [bitsOf]
  | cons b r ih =>
    by_cases hn : n < 8
    · have : n / 8 = 0 := by omega
      have : n = 0 ∨ n = 1 ∨ n = 2 ∨ n = 3 ∨ n = 4 ∨ n = 5 ∨ n = 6 ∨ n = 7 := by omega
      rcases this with rfl | rfl | rfl | rfl | rfl | rfl | rfl | rfl <;> simp [bitsOf]
    · obtain ⟨k, rfl⟩ : ∃ k, n = k + 8 := ⟨n - 8, by omega⟩
      have h1 : (k + 8) / 8 = k / 8 + 1 := by omega
      have h2 : (k + 8) % 8 = k % 8 := by omega
      have h3 : (bitsOf (b :: r))[k + 8]? = (bitsOf r)[k]? := by simp [bitsOf]
      rw [h3, ih, h1, h2]; simp

/-- The move requests and their ends leave the port in a state of R63 that goes with its items. -/
theorem MotionPort.go_port (m : MotionPort) (h : m.port = .sending) :
    m.go = { m with port := if m.abandoned then .draining else .moving, abandoned := false, moveTimer := true, message := none,
                    goRisen := true } := by
  simp [MotionPort.go, h]

/-- A drain that ends with no pending move leaves the port IDLE (R68). -/
theorem MotionPort.endDrain_none (m : MotionPort) (k : Option Turret) (h : m.pendingMove = none) : m.endDrain k = m.finish k := by
  simp [MotionPort.endDrain, h]

/-! ## The raster stream does not look at the motion port -/

theorem State.takeHeader_withMotion (s : State) (m : MotionPort) :
    ({ s with motion := m } : State).takeHeader = { s.takeHeader with motion := m } := by
  by_cases h : s.raster.decoder = .header ∧ 4 ≤ s.raster.fifo.length <;> simp only [State.takeHeader, h, and_self, if_true, if_false]

theorem State.settleHeader_withMotion (s : State) (m : MotionPort) (id : BankId) (h : Header) (v : Verdict) :
    ({ s with motion := m } : State).settleHeader id h v = { s.settleHeader id h v with motion := m } := by
  cases v with
  | bind bd =>
    cases bd with
    | record k =>
      have hk : ({ s with motion := m } : State).resolve k = s.resolve k := rfl
      unfold State.settleHeader State.bindHeader State.bindOwner
      cases hr : s.resolve k <;> simp only [hk, hr] <;> rfl
    | index sl p => rfl
    | title sl => rfl
  | drain w => rfl
  | discard w => rfl

theorem State.examineHeader_withMotion (s : State) (m : MotionPort) :
    ({ s with motion := m } : State).examineHeader = { s.examineHeader with motion := m } := by
  have hb : ({ s with motion := m } : State).freeBankId? = s.freeBankId? := rfl
  unfold State.examineHeader
  by_cases h : s.raster.decoder = .waitBank
  · simp only [h, if_true, hb]
    split
    · rename_i rest _ _
      exact State.settleHeader_withMotion { s with raster := { s.raster with fifo := rest, decoder := .waitBank } } m ..
    · rfl
  · simp only [h, if_false]

theorem State.consume_withMotion (s : State) (m : MotionPort) :
    ({ s with motion := m } : State).consume = { s.consume with motion := m } := by
  unfold State.consume; cases h : s.raster.decoder <;> rfl

/-- What the stream does in an event is the same whatever the motion port holds. -/
theorem State.streamGo_withMotion (s : State) (m : MotionPort) :
    ({ s with motion := m } : State).streamGo = { s.streamGo with motion := m } := by
  simp only [State.streamGo, State.takeHeader_withMotion, State.examineHeader_withMotion, State.consume_withMotion]

/-! ## What a bank shows -/

/-- A bank shows its words in the rows below its row count. -/
theorem Bank.shownWord_of_lt {b : Bank} {row : Nat} (h : row < b.rows) (word : Nat) :
    b.shownWord row word = some (Memory.read b.words (row * Config.rowWords + word)) := if_pos h

/-- A bank shows dark from its row count on. -/
theorem Bank.shownWord_of_le {b : Bank} {row : Nat} (h : b.rows ≤ row) (word : Nat) : b.shownWord row word = none :=
  if_neg (Nat.not_lt.mpr h)

/-! ## READY -/

/-- Where READY has risen again, it stands as the port has room or an offer. -/
@[simp] theorem State.readyAt_true (s : State) : s.readyAt true = s.ready := by simp [State.readyAt]

/-- Between an edge of STROBE that has taken a half-word and its rise, READY is low. -/
theorem State.readyAt_fallen {s : State} (h : s.raster.strobed = true) : s.readyAt false = false := by simp [State.readyAt, h]

end Sys2Proof.Machine
end

