-- ==== Sys2Proof/Tests/Slice0.lean ====
section
/-! SUPPORT. One small test or two for each command, with results from the manual's rules and worked sequences, and for each obligation with
hypotheses a witness that meets them. -/

namespace Sys2Proof.Tests

set_option Elab.async false

open Sys2Proof Sys2Proof.Machine

/-! ## Small states -/

/-- The state after a command. -/
def after (c : Instr) (s : State) : State :=
  match exec c s with
  | .next t => t
  | .fault _ | .refused _ => s

/-- Node 4 at the end of a turn gap. -/
def base : State := { State.reset with link := { State.reset.link with iface := .request } }

/-- Master fields of a G3 master over accounts 0 to 9, as MASTER_OPEN makes them. -/
def g3 : MasterFields :=
  { format := .g3, label := 1, accountLow := 0, accountHigh := 9, partsExposed := 0, indexBindings := 0,
    cells := List.replicate 71 .free ++ [.index] }

/-- A plate in slot 0, with its master in a state. -/
def plated (st : MasterState) : State :=
  { base with plates := base.plates.set 0 { raw := true, debounced := true, settling := false }
              masters := base.masters.set 0 { state := st, fields := some g3, generation := 8, failure := none } }

/-- The plate of slot 0 about to be removed. -/
def leaving (s : State) : State := { s with plates := s.plates.set 0 { raw := false, debounced := true, settling := true } }

/-- The key 5-1-1. -/
def key5 : Key := { account := 5, cycle := 1, page := 1 }

/-- A record of key 5-1-1 at entry 0, cell 0 of slot 0, placed by node 6. -/
def page (st : RecState) : Record :=
  { entry := 0, key := key5, slot := 0, cell := 0, state := st, retirePending := false, cls := 4, source := 6, bank := none,
    openTime := none, clamped := none }

/-- Slot 0 with one record. -/
def film (mst : MasterState) (rst : RecState) : State :=
  { plated mst with
    dir := { base.dir with freeList := [1, 2], keyTable := [page rst] }
    masters := base.masters.set 0
      { state := mst, generation := 8, failure := none, fields := some { g3 with cells := g3.cells.set 0 rst.cell } } }

/-- A job of bank A in slot 0. -/
def job (kind : JobKind) (arrived ready : Bool) : Job :=
  { bank := .a, kind := kind, slot := 0, target := 128, limitMs := 40, fogLimit := 2, arrived := arrived, panelReady := ready }

/-- Bank A in a state, bound. -/
def bound (st : BankState) (bd : Binding) (s : State) : State :=
  { s with panel := { s.panel with bankA := { state := st, binding := some bd, rows := 1, words := [] } } }

/-- The path in PREPARING. -/
def preparing (kind : JobKind) (bd : Binding) (arrived ready : Bool) (s : State) : State :=
  { bound .shown bd s with
    seq := { path := .preparing, haltPending := false, fault := .none, job := some (job kind arrived ready), panelTimer := !ready }
    motion := { s.motion with port := if arrived then .idle else .moving, moveTimer := !arrived,
                              target := if arrived then none else some { x := 400, y := 3000, turret := .three } } }

/-- The path in EXPOSING with a count. -/
def exposing (kind : JobKind) (bd : Binding) (count : Nat) (s : State) : State :=
  { bound .shown bd s with
    seq := { path := .exposing, haltPending := false, fault := .none, job := some (job kind true true), panelTimer := false }
    dose := { s.dose with counter := .integrating, count := count, limitTimer := true, openTimer := true,
                          darkWindow := if count = 0 then .running else .spent } }

/-- A document job of the record of `film`. -/
def preparingPage (arrived ready : Bool) : State :=
  let s := film .opened .inFlight
  { preparing (.document 0 0) (.record 0) arrived ready s with
    dir := { s.dir with keyTable := [{ page .inFlight with bank := some .a }] } }

/-- The same job in EXPOSING. -/
def exposingPage (count : Nat) : State :=
  let s := film .opened .inFlight
  { exposing (.document 0 0) (.record 0) count s with
    dir := { s.dir with keyTable := [{ page .inFlight with bank := some .a }] } }

/-- A job of index part 0 in EXPOSING. -/
def exposingIndex (count : Nat) : State := exposing (.index 0) (.index 0 0) count (plated .indexing)

/-- The master of slot 0 has lost its plate, and the sequencer has not been told. -/
def plateGone (s : State) : State :=
  { s with masters := s.masters.set 0 { s.masters[0] with state := .failed, failure := some .plateRemoved } }

/-- Removal reports that wait. -/
def reported (sl : Slot) (s : State) : State := { s with removalReports := [sl] }

/-- A path state without a job. -/
def atPath (p : PathState) (s : State) : State := { s with seq := { s.seq with path := p } }

/-- The decoder in a state with words in the FIFO. -/
def stream (d : Decoder) (fifo : List Word) (s : State) : State := { s with raster := { s.raster with decoder := d, fifo := fifo } }

/-- A fill of bank A by a one-row raster whose 64 words are all 0001_0000h and whose header's sum is as given (section 4.9): 63 are moved. -/
def lastWord (bd : Option Binding) (sum : Word) (s : State) : State :=
  { stream (.fill { bank := .a, rows := 1, sum := sum, handle := 0, running := 0x3F0000, count := 63 }) [0x10000] s with
    panel := { s.panel with bankA := { state := .filling, binding := bd, rows := 1, words := [] } } }

/-- The interface in ANSWER with a tail and its pending answer. -/
def answering (bytes : TailBytes) (p : PendingAnswer) (s : State) : State :=
  { s with link := { s.link with iface := .answer, tail := some { bytes := bytes, nextBit := 0, cut := false } }, answer := some p }

/-- The interface in a state without a tail. -/
def atIface (i : IfaceState) : State := { base with link := { base.link with iface := i } }

/-- The pending answer of a group PLACE that created the record of handle 0. -/
def placed : PendingAnswer := { dst := .group, code := 0x06, result := some .ok, created := some 0, clearing := false }

/-- The pending answer of a STATUS. -/
def asked (clearing : Bool) : PendingAnswer := { dst := .direct, code := 0x01, result := some .ok, created := none, clearing := clearing }

/-- The bytes of the tail being sent. -/
def tailSent (s : State) : Option (List Byte) := s.link.tail.map (fun t => t.bytes.sent)

/-- An outbound port with a queued listing of slot 0. -/
def listingDue : State :=
  let s := film .settled .exposed
  { s with raster := { s.raster with direction := .outbound, place := .queued 0 }, pins := { s.pins with dir := true } }

/-- The index list of `listingDue` going out, all its words in the FIFO. -/
def listingRuns : State := after .listingBegin listingDue

/-! ## Well-formed commands -/

/-- R176: no tail has a bit 200. -/
theorem test_wellFormed_refuses_long_cut : (Instr.tailCutOff 200 .bitError).wellFormed = false := by decide
theorem test_wellFormed_takes_last_cut : (Instr.tailCutOff 199 .bitError).wellFormed = true := by decide
/-- R168: the twentieth byte is a link fault of its own. -/
theorem test_wellFormed_refuses_twenty_bytes : (Instr.turnGapEnd (List.replicate 160 true)).wellFormed = false := by decide +kernel
theorem test_wellFormed_takes_less : (Instr.turnGapEnd (List.replicate 159 true)).wellFormed = true := by decide +kernel
/-- No row of the table has bits (log entry 20). -/
theorem test_no_word_spells_a_command : decodeTableWord 32 0x6B2D0101 = none := by decide

/-! ## Worked values -/

/-- Section 9.4: the worked CRC. -/
theorem test_crc_worked : crc [0x64, 0x01, 0x01, 0x00] = 0x9B := by decide +kernel
/-- Section 3.4: cell 137 of G2 in slot 2, and its title. -/
theorem test_positions_g2 : cellTarget .g2 2 137 = { x := 88880, y := 11700, turret := .two } ∧
    jobTarget .g2 2 .title = { x := 64400, y := 300, turret := .two } := by decide
/-- Section 3.4: the last index cells of G1, G2 and G3. -/
theorem test_positions_index : jobTarget .g1 0 (.index 0) = { x := 27400, y := 18300, turret := .one } ∧
    jobTarget .g2 2 (.index 1) = { x := 91760, y := 19200, turret := .two } ∧
    jobTarget .g3 5 (.index 0) = { x := 186800, y := 17500, turret := .three } := by decide
/-- Section 7.11: T = 14,766, L = 482 ms, fog limit 230. -/
theorem test_dose_worked : doseTarget 12000 72 140 = 14766 ∧ exposureLimit 14766 6150 = 482 ∧ fogLimit 14766 = 230 := by decide
/-- Section 7.12: without and with the clamp. -/
theorem test_dose_clamp : doseTarget 9000 1 128 = 141 ∧ doseTarget 9000 1 10 = 16 ∧ doseClamped 9000 1 10 = true ∧
    exposureLimit 16 6150 = 20 := by decide

/-! ## Plates and release -/

theorem test_plateLevelChange_restarts_timer : (after (.plateLevelChange 0 true) base).plates[0].settling = true := by decide +kernel
theorem test_plateSettleExpiry_loads_empty_slot :
    ((after (.plateSettleExpiry 0) (after (.plateLevelChange 0 true) base)).master 0).state = .loaded := by decide +kernel
theorem test_plateSettleExpiry_fails_live_master :
    ((after (.plateSettleExpiry 0) (leaving (film .opened .exposed))).master 0).failure = some .plateRemoved ∧
    (after (.plateSettleExpiry 0) (leaving (film .opened .exposed))).dir.keyTable = [page .lost] := by decide +kernel
/-- R119; a report left over from an earlier job of the slot changes nothing (log entry 12). -/
theorem test_plateRemovalReport_faults_path :
    (after .plateRemovalReport (reported 0 (plateGone (exposingPage 5)))).seq.fault = .plateRemoved ∧
    (after .plateRemovalReport (reported 0 (exposingPage 5))).seq.path = .exposing := by decide +kernel
theorem test_releaseDeletion_deletes_first_record :
    (after .releaseDeletion { film .releasing .lost with releaseQueue := [0] }).dir.freeList = [1, 2, 0] ∧
    ((after .releaseDeletion { film .releasing .lost with releaseQueue := [0] }).master 0).state = .spent := by decide +kernel
theorem test_releaseEnd_waits_for_listing : (after .releaseEnd { stream .listing [1] (plated .releasing) with
      releaseQueue := [0]
      raster := { base.raster with decoder := .listing, place := .inProgress 0 } }).releaseQueue = [0] ∧
    (after .releaseEnd { plated .releasing with releaseQueue := [0] }).releaseQueue = [] := by decide +kernel

/-! ## Requests -/

/-- R194: 1,024 free entries are 04h 00h; R192: node 4, OK. -/
theorem test_status_counts_free_entries : (tailSent (after (.status .direct 0 0) base)).map (fun b => b.take 6) =
    some [0x40, 0, 0, 0, 4, 0] := by decide +kernel
/-- R192: HALTED is bit 2 of the roll code. -/
theorem test_status_group_rolls : tailSent (after (.status .group 0 0) (atPath .halted base)) = some [0x44] := by decide +kernel
/-- R52, R59: a G3 map has 71 FREE cells. -/
theorem test_masterOpen_makes_map : ((after (.masterOpen .direct 0 0 3 1 0 9) (plated .loaded)).master 0).fields.map
    (fun f => (f.freeCells, f.cells.length)) = some (71, 72) := by decide +kernel
theorem test_masterClose_settles : ((after (.masterClose .direct 0 0) (film .opened .exposed)).master 0).state = .settled ∧
    ((after (.masterClose .direct 0 0) (film .opened .spoiled)).master 0).state = .closing := by decide +kernel
/-- R194: OPEN, G3, label 1, one record EXPOSED, 71 free cells but one, generation 8, no failure. -/
theorem test_masterState_payload : tailSent (after (.masterState .direct 3 0) (film .opened .exposed)) =
    some ([0x40, 0, 2, 3, 0, 1, 0, 0, 0, 0, 1, 0, 0, 0, 70, 0, 8, 0] ++
      [crc [0x40, 0, 2, 3, 0, 1, 0, 0, 0, 0, 1, 0, 0, 0, 70, 0, 8, 0]]) := by decide +kernel
theorem test_masterRelease_queues_slot : (after (.masterRelease .direct 0 0) (plated .finished)).releaseQueue = [0] ∧
    tailSent (after (.masterRelease .direct 0 0) (bound .shown (.title 0) (plated .indexed))) = some [0x47] := by decide +kernel
/-- Section 3.6, step 1: the first PLACE takes cell 0. -/
theorem test_place_takes_lowest_cell :
    (after (.place .direct 6 key5 4) (plated .opened)).dir.keyTable = [{ page .awaiting with entry := 0 }] ∧
    ((after (.place .direct 6 key5 4) (plated .opened)).cellState 0 0) = some .held := by decide +kernel
/-- R189: DUPLICATE is 3, and its DATA tail holds handle and image. -/
theorem test_place_duplicate : (tailSent (after (.place .group 6 key5 4) (film .opened .awaiting))).map (fun b => b.take 9) =
    some [0x43, 0, 0, 0, 0, 0, 0, 0, 5] := by decide +kernel
theorem test_lookup_not_found : tailSent (after (.lookup 6 key5) base) = some [0x42] := by decide +kernel
/-- R192: the state code of EXPOSED is 4. -/
theorem test_groupLookup_rolls_state : tailSent (after (.groupLookup 6 key5) (film .opened .exposed)) = some [0x44] ∧
    (after (.groupLookup 6 key5) base).link.iface = .waitMark := by decide +kernel

/-- The record of section 10.6: handle 291/5. -/
def page291 : State :=
  { base with dir := { stamps := base.dir.stamps.set 291 5, freeList := List.replicate 40 0, keyTable := [
      { entry := 291, key := { account := 4011740215, cycle := 3, page := 1 }, slot := 2, cell := 137, state := .exposed,
        retirePending := false, cls := 5, source := 6, bank := none, openTime := some 244, clamped := some false }] } }

/-- Section 10.6: the worked tail of FETCH(291/5), before its status byte. -/
theorem test_fetch_worked_tail : (after (.fetch .direct 6 0x48C5) page291).link.tail.map (·.bytes) =
    some (.data 0x40 none [0x00, 0xEF, 0x1E, 0x4C, 0x37, 0x03, 0x01, 0x02, 0x89, 0x84, 0x56, 0x00, 0xF4]) := by decide +kernel
/-- Section 10.6: 41h, node 4 and BUSY, while a slot is RELEASING. -/
theorem test_fetch_busy : tailSent (after (.fetch .direct 0 0x48C5) { page291 with releaseQueue := [3] }) = some [0x41] := by decide +kernel
theorem test_rekey_gives_key : (after (.rekey .direct 6 0 { key5 with page := 2 }) (film .opened .awaiting)).dir.keyTable.map (·.key) =
    [{ key5 with page := 2 }] ∧
    ((after (.rekey .direct 6 0 { key5 with page := 2 }) (film .opened .awaiting)).master 0).generation = 9 := by decide +kernel
theorem test_setClass_checks_class : (after (.setClass .direct 6 0 7) (film .opened .loaded)).dir.keyTable.map (·.cls) = [7] ∧
    tailSent (after (.setClass .direct 6 0 8) (film .opened .loaded)) = some [0x48] := by decide +kernel
/-- R44: an EXPOSED record is WITHDRAWN, and R189: node 5 is not its source. -/
theorem test_retire_withdraws : (after (.retire .direct 6 0) (film .opened .exposed)).dir.keyTable = [page .withdrawn] ∧
    tailSent (after (.retire .direct 5 0) (film .opened .exposed)) = some [0x4A] := by decide +kernel
/-- Section 3.6, step 6: RETIRE of an AWAITING page frees its cell. -/
theorem test_retire_frees_cell : (after (.retire .direct 6 0) (film .opened .awaiting)).cellState 0 0 = some .free ∧
    (after (.retire .direct 6 0) (film .opened .awaiting)).dir.stamps[(0 : Entry)] = 1 := by decide +kernel
/-- Section 3.6, step 7: the spoiled page takes the lowest FREE cell and leaves its cell VOID. -/
theorem test_replace_takes_lowest_cell : (after (.replace .direct 6 0) (film .opened .spoiled)).dir.keyTable.map (·.cell) = [1] ∧
    (after (.replace .direct 6 0) (film .opened .spoiled)).cellState 0 0 = some .void := by decide +kernel
/-- R152, R194: generation 8, one entry, its mark CURRENT, and a zero entry. -/
theorem test_indexRead_page_zero : (after (.indexRead .direct 6 0 0) (film .settled .exposed)).link.tail.map (·.bytes) =
    some (.data 0x40 none ([0, 8, 1] ++ [0, 0, 0, 0, 5, 1, 1, 0, 0] ++ List.replicate 9 0)) := by decide +kernel
theorem test_listing_queues : (after (.listing .direct 6 0) (film .settled .exposed)).raster.place = .queued 0 := by decide +kernel
theorem test_titleSummary_counts : (after (.titleSummary .direct 6 0) (film .settled .exposed)).link.tail.map (·.bytes) =
    some (.data 0x40 none ([0, 0, 0, 0, 5, 1, 1] ++ [0, 0, 0, 0, 5, 1, 1] ++ [1, 0, 0, 8])) := by decide +kernel
theorem test_halt_idle_path : (after (.halt .direct 0) base).seq.path = .halted ∧
    (after (.halt .direct 0) (exposingPage 1)).seq.haltPending = true := by decide +kernel
theorem test_resume_faulted_path : (after (.resume .direct 0) (atPath .faulted base)).seq.path = .idle ∧
    tailSent (after (.resume .direct 0) base) = some [0x47] := by decide +kernel
/-- Section 7.13, step 4: CALIBRATE in EXPOSING waits. -/
theorem test_calibrate_waits : (after (.calibrate .direct 0 0) (exposingPage 1)).dose.calibration = .pending false ∧
    (after (.calibrate .direct 0 1) base).dose.counter = .gating := by decide +kernel
/-- Section 7.12: SET_DOSE(1, 0, 1). -/
theorem test_setDose_class_entry : (after (.setDose .direct 0 1 0 1) base).dose.classes[0] = 1 ∧
    tailSent (after (.setDose .direct 0 0 4 1) base) = some [0x48] := by decide +kernel
theorem test_setTrim_slot : (after (.setTrim .direct 0 2 140) base).dose.trims[2] = 140 := by decide +kernel
/-- Section 7.13, step 3: the duty is held in EXPOSING. -/
theorem test_setLamp_holds : (after (.setLamp .direct 0 220) (exposingPage 1)).dose.heldDuty = some 220 ∧
    (after (.setLamp .direct 0 220) base).dose.duty = 220 := by decide +kernel

/-! ## The cell link -/

theorem test_openingMark_begins_frame : (after .openingMark (atIface .waitMark)).link.iface = .request ∧
    (after .openingMark base).link.fault = .badSymbol := by decide +kernel
/-- Section 9.4: the frame 64h 01h 01h 00h 9Bh asks node 4 for its STATUS; with another CRC it is BAD_CRC. -/
theorem test_turnGapEnd_worked_frame :
    (after (.turnGapEnd (bitsOf [0x64, 0x01, 0x01, 0x00, 0x9B])) base).answer = some (asked false) ∧
    (after (.turnGapEnd (bitsOf [0x64, 0x01, 0x01, 0x00, 0x9C])) base).link.fault = .badCrc := by decide +kernel
theorem test_turnGapEnd_length : (after (.turnGapEnd (bitsOf [0x64, 0x01, 0x01, 0x00, 0x9B] ++ [true])) base).link.fault = .badLength ∧
    (after (.turnGapEnd (bitsOf [0x64, 0x02, 0x01, 0x00, 0x9B])) base).sup.lnk = true := by decide +kernel
theorem test_invalidSymbol_in_request : (after .invalidSymbol base).link.fault = .badSymbol ∧
    (after .invalidSymbol (atIface .waitMark)).link.fault = .none := by decide +kernel
theorem test_break_is_no_fault : (after .breakPulse base).link.iface = .sync ∧ (after .breakPulse base).sup.lnk = false := by decide +kernel
theorem test_closeGap_ends_sync : (after .closeGap (atIface .sync)).link.iface = .waitMark := by decide +kernel
theorem test_tailComplete_waits_for_mark : (after .tailComplete (answering (.ack 0x40) (asked false) base)).link.iface = .waitMark := by
  decide +kernel
/-- R33, R34: a group PLACE that loses at the one 1 of 40h is rolled back, and latches CLS. -/
theorem test_tailCutOff_rolls_back : (after (.tailCutOff 1 .lostArbitration)
      (answering (.data 0x40 none [0, 0, 0, 0]) placed (film .opened .awaiting))).dir.keyTable = [] ∧
    (after (.tailCutOff 1 .lostArbitration) (answering (.data 0x40 none [0, 0, 0, 0]) placed (film .opened .awaiting))).sup.cls = true := by
  decide +kernel
/-- R174: bit 3 of 40h is a sent 0, at which no tail loses; a bit error it can have. -/
theorem test_tailCutOff_looks_at_bit : (after (.tailCutOff 3 .lostArbitration) (answering (.ack 0x40) (asked false) base)).link.iface =
      .answer ∧
    (after (.tailCutOff 3 .bitError) (answering (.ack 0x40) (asked false) base)).link.fault = .bitError := by decide +kernel
/-- Section 10.6: status 08h, HLT alone. -/
theorem test_statusByteRead_halted :
    tailSent (after .statusByteRead (answering (.data 0x40 none []) (asked false) (atPath .halted base))) =
      some [0x40, 0x08, crc [0x40, 0x08]] := by decide +kernel
/-- R191: the clearing takes the flags that the byte shows. -/
theorem test_statusByteRead_clears : (after .statusByteRead (answering (.data 0x40 none []) (asked true)
    { base with sup := { base.sup with ras := true } })).sup.ras = false := by decide +kernel
theorem test_rollSlotStart_sends_again : (after .rollSlotStart { atIface .rollWait with
    link := { (atIface .rollWait).link with tail := some { bytes := .roll 0x44, nextBit := 0, cut := false } } }).link.iface = .answer := by
  decide +kernel
theorem test_rollGap_ends_wait : (after .rollGap (atIface .rollWait)).link.iface = .waitMark := by decide +kernel
theorem test_requestTooLong_fails : (after .requestTooLong base).link.fault = .badLength := by decide +kernel
theorem test_syncCountRestart_counts : (after .syncCountRestart
    { atIface .sync with link := { (atIface .sync).link with gapCount := false } }).link.gapCount = true := by decide +kernel

/-! ## The raster port -/

/-- R70: low half first. -/
theorem test_halfWordIn_low_first :
    (after (.halfWordIn ⟨0xABCD, true⟩) (after (.halfWordIn ⟨0x1234, true⟩) base)).raster.fifo = [0xABCD1234] := by decide +kernel
/-- R69: READY falls at an edge and rises again, and an edge in between is lost. -/
theorem test_halfWordIn_early : (after (.halfWordIn ⟨0xABCD, false⟩) (after (.halfWordIn ⟨0x1234, true⟩) base)).raster.loneHalf =
      some 0x1234 ∧
    (after (.halfWordIn ⟨0x1234, true⟩) base).readyAt false = false ∧ (after (.halfWordIn ⟨0x1234, true⟩) base).readyAt true = true ∧
    base.readyAt false = true := by decide +kernel
theorem test_headerTaken_waits_for_bank : (after .headerTaken
    { stream .header [1, 2, 3, 4] base with panel := { base.panel with
        bankA := { base.panel.bankA with state := .shown }, bankB := { base.panel.bankB with state := .filling } } }).raster.decoder =
    .waitBank := by decide +kernel
/-- R76: the rows from the row count on show dark. -/
theorem test_shownWord_dark : ({ base.panel.bankA with rows := 1, words := [(0, 7), (64, 9)] } : Bank).shownWord 0 0 = some 7 ∧
    ({ base.panel.bankA with rows := 1, words := [(0, 7), (64, 9)] } : Bank).shownWord 1 0 = none := by decide +kernel
/-- R72: with no bank FREE a header waits and nothing changes. -/
theorem test_headerExamination_waits : (after .headerExamination { stream .waitBank [1, 2, 3, 4] base with panel := { base.panel with
      bankA := { base.panel.bankA with state := .shown }, bankB := { base.panel.bankB with state := .filling } } }).raster.fifo =
    [1, 2, 3, 4] := by decide +kernel
/-- Section 4.9, step 6: an INDEX raster of generation 7 for slot 0 at 8 is drained, 57,600 words. -/
theorem test_headerExamination_stale_index :
    (after .headerExamination (stream .waitBank [0x6B2D0200, 0x00000007, 0x03840000, 0] (plated .settled))).raster.decoder = .drain 57600 ∧
    (after .headerExamination (stream .waitBank [0x6B2D0200, 0x00000007, 0x03840000, 0] (plated .settled))).raster.faultReason =
      .staleGeneration := by decide +kernel
/-- Section 4.9: 64 words of 0001_0000h sum to 400000h. -/
theorem test_fillEnd_sums : (after .fillEnd (atPath .halted (lastWord (some (.title 0)) 0x400000 (plated .indexed)))).panel.queue = [.a] ∧
    (after .fillEnd (atPath .halted (lastWord (some (.title 0)) 0x400001 (plated .indexed)))).raster.faultReason = .sumMismatch := by
  decide +kernel
theorem test_drainComplete_to_header : (after .drainComplete (stream (.drain 1) [7] base)).raster.decoder = .header ∧
    (after .drainComplete (stream (.drain 1) [7] base)).raster.fifo = [] := by decide +kernel
/-- R83: a bound fill is abandoned and its record AWAITING again. -/
theorem test_flush_abandons_fill : (after (.flush false) (lastWord (some (.record 0)) 0 (film .opened .filling))).dir.keyTable =
      [page .awaiting] ∧
    (after (.flush false) (lastWord (some (.record 0)) 0 (film .opened .filling))).raster.faultReason = .flushedMidRaster := by
  decide +kernel
theorem test_flushFall_raises_ready : (after .flushFall { base with pins := { base.pins with flush := true } }).ready = true := by
  decide +kernel
/-- Section 4.10, steps 1 and 3: DIR waits for a clean boundary, and FLUSH makes one. -/
theorem test_dirRise_waits : (after .dirRise (stream .header [1, 2] base)).raster.direction = .inbound ∧
    (after (.flush false) (after .dirRise (stream .header [1, 2] base))).raster.direction = .outbound := by decide +kernel
theorem test_directionOutbound_clean : (after .directionOutbound { base with pins := { base.pins with dir := true } }).raster.direction =
    .outbound := by decide +kernel
theorem test_dirFall_abandons_listing : (after .dirFall listingRuns).raster.place = .empty ∧
    (after .dirFall listingRuns).raster.direction = .inbound := by decide +kernel
/-- R88, section 4.10: 2 + 3 × 1 words, the first of kind 4. -/
theorem test_listingBegin_words : listingRuns.raster.fifo = [0x6B2D0400, 0x00080001, 0, 0x05010100, 0] := by decide +kernel
theorem test_halfWordOut_low_first : listingRuns.dataOut = some 0x0400 ∧ (after .halfWordOut listingRuns).dataOut = some 0x6B2D ∧
    (after .halfWordOut listingRuns).readyAt false = false := by decide +kernel

/-! ## The exposure path -/

/-- Section 7.11 and 3.4: the job of cell 137 of G2 in slot 2 at class 5 with trim 140 and lamp rate 6,150. -/
def queuedPage : State :=
  { page291 with
    masters := base.masters.set 2
      { state := .opened, generation := 1, failure := none,
        fields := some { g3 with format := .g2, cells := List.replicate 240 .held } }
    dir := { page291.dir with
      keyTable := page291.dir.keyTable.map (fun r => { r with state := .loaded, openTime := none, clamped := none }) }
    dose := { base.dose with rate := 6150, trims := base.dose.trims.set 2 140 }
    panel := { base.panel with bankA := { state := .loaded, binding := some (.record 0x48C5), rows := 1, words := [] }, queue := [.a] } }

theorem test_jobTake_figures : (after .jobTake queuedPage).seq.job = some
    { bank := .a, kind := .document 0x48C5 137, slot := 2, target := 14766, limitMs := 482, fogLimit := 230, arrived := false,
      panelReady := false } := by decide +kernel
theorem test_jobTake_moves_and_shows : (after .jobTake queuedPage).motion.target = some { x := 88880, y := 11700, turret := .two } ∧
    (after .jobTake queuedPage).panel.selected = some .a ∧
    (after .jobTake queuedPage).dir.keyTable.map (fun r => (r.state, r.clamped)) = [(.inFlight, some false)] := by decide +kernel
theorem test_pnlShow_awaits : (after .pnlShow { base with panel := { base.panel with strobing := true } }).panel.awaiting = true := by
  decide +kernel
theorem test_panelReady_opens : (after .panelReady { preparingPage true false with
    panel := { (preparingPage true false).panel with awaiting := true } }).seq.path = .exposing := by decide +kernel
theorem test_motGo_starts_timer : (after .motGo { base with motion := { base.motion with port := .sending } }).motion.port = .moving ∧
    (after .motGo { base with motion := { base.motion with port := .sending, abandoned := true } }).motion.port = .draining := by
  decide +kernel
/-- Section 3.7: the arrival makes turret 3 known. -/
theorem test_inPosition_arrives : (after .inPosition (preparingPage false false)).motion.turret = some .three ∧
    (after .inPosition (preparingPage false false)).seq.job = some (job (.document 0 0) true false) := by decide +kernel
theorem test_motionFault_returns_job : (after .motionFault (preparingPage false true)).panel.queue = [.a] ∧
    (after .motionFault (preparingPage false true)).seq.fault = .motionFault := by decide +kernel
theorem test_moveTimerExpiry_times_out : (after .moveTimerExpiry (preparingPage false true)).seq.fault = .motionTimeout ∧
    (after .moveTimerExpiry (preparingPage false true)).dir.keyTable.map (·.state) = [.loaded] := by decide +kernel
theorem test_panelTimeout_abandons_move : (after .panelTimeout (preparingPage false false)).motion.port = .draining ∧
    (after .panelTimeout (preparingPage false false)).seq.fault = .panelTimeout := by decide +kernel
/-- R126, expiry before ARRIVED: after both, the port is IDLE and the job returned, as where the port was IDLE already. -/
theorem test_panelTimeout_before_arrival :
    (after .inPosition (after .panelTimeout (preparingPage false false))).motion =
      { (preparingPage false false).motion with port := .idle, target := none, moveTimer := false, turret := some .three } ∧
    (after .panelTimeout (after .inPosition (preparingPage false false))).motion =
      (after .inPosition (after .panelTimeout (preparingPage false false))).motion ∧
    (after .inPosition (after .panelTimeout (preparingPage false false))).seq.fault = .panelTimeout := by decide +kernel
theorem test_shutterOpen_opens : (after .shutterOpen (preparingPage true true)).shutter = true := by decide +kernel
theorem test_photoPulse_counts : (after (.photoPulse 9) (exposingPage 5)).dose.count = 6 ∧
    (after (.photoPulse 9) (exposingPage 127)).dir.keyTable.map (fun r => (r.state, r.openTime)) = [(.exposed, some 9)] := by decide +kernel
/-- R13: the last index part makes the master INDEXED. -/
theorem test_countReachesT_indexes : ((after (.countReachesT 9) (exposingIndex 127)).master 0).state = .indexed ∧
    ((after (.countReachesT 9) (exposingIndex 127)).cellState 0 71) = some .exposedIndex := by decide +kernel
/-- R136, section 7.11: t_a = 244 gives C = 6,051. -/
theorem test_lamp_rate_worked : ({ base.dose with rate := 6150 } : DoseUnit).updateRate 14766 244 =
    { base.dose with rate := 6051 } := by decide +kernel
/-- Section 3.6, step 5: a spoiled page leaves its cell VOID. -/
theorem test_limitExpiry_spoils : (after .limitExpiry (exposingPage 2)).cellState 0 0 = some .void ∧
    (after .limitExpiry (exposingPage 2)).seq.fault = .underdose := by decide +kernel
/-- R113: below the fog limit the page is returned. -/
theorem test_limitExpiry_returns : (after .limitExpiry (exposingPage 1)).panel.queue = [.a] ∧
    (after .limitExpiry (exposingPage 1)).seq.fault = .lampLow := by decide +kernel
theorem test_lampDarkExpiry_returns : (after .lampDarkExpiry (exposingPage 0)).seq.fault = .lampDark ∧
    (after .lampDarkExpiry (exposingPage 0)).shutter = false := by decide +kernel
/-- Section 7.13, step 6: C becomes 5,200, and C_ref stays with flag 0. -/
theorem test_gateEnd_sets_rate : (after .gateEnd { base with dose := { base.dose with
      calibration := .running false, counter := .gating, count := 5200, reference := 6150 } }).dose.rate = 5200 ∧
    (after .gateEnd { base with dose := { base.dose with
      calibration := .running false, counter := .gating, count := 5200, reference := 6150 } }).lmp = false := by decide +kernel
/-- R14: a spoiled index part fails its master. -/
theorem test_attention_spoils_index : ((after (.attention 9) (exposingIndex 2)).master 0).failure = some .indexSpoiled ∧
    (after (.attention 9) (exposingIndex 2)).seq.path = .halted := by decide +kernel
theorem test_pwmPeriodStart_takes_duty : (after .pwmPeriodStart { base with dose := { base.dose with duty := 180 } }).lampPwm 179 = true ∧
    (after .pwmPeriodStart { base with dose := { base.dose with duty := 180 } }).lampPwm 180 = false := by decide +kernel

/-! ## Resets -/

theorem test_hardResetBegin_holds : (after .hardResetBegin (exposingPage 5)).shutter = false ∧
    (after .hardResetBegin (exposingPage 5)).sup.phase = .heldByLines := by decide +kernel
theorem test_powerUp_holds : (after .powerUp base).sup.phase = .powerUp := by decide +kernel
/-- R181: a strap of 0 ends in OFF with LNK. -/
theorem test_hardResetEnd_strap_zero : (after (.hardResetEnd ⟨0, true⟩ 1 false false false) (after .powerUp base)).link.iface = .off ∧
    (after (.hardResetEnd ⟨0, true⟩ 1 false false false) (after .powerUp base)).alert = true := by decide +kernel
/-- R20: a plate present at the reset is SPENT. -/
theorem test_hardResetEnd_plate : ((after (.hardResetEnd ⟨4, true⟩ 1 false false false) (after .powerUp base)).master 0).state = .spent ∧
    ((after (.hardResetEnd ⟨4, true⟩ 1 false false false) (after .powerUp base)).master 1).state = .empty := by decide +kernel
/-- R182: with LINK dominant as the reset ends, the close-gap count waits for its rise. -/
theorem test_hardResetEnd_dominant : (after (.hardResetEnd ⟨4, false⟩ 0 false false false) (after .powerUp base)).link.gapCount = false ∧
    (after .syncCountRestart (after (.hardResetEnd ⟨4, false⟩ 0 false false false) (after .powerUp base))).link.gapCount = true := by
  decide +kernel

/-! ## Witnesses: for each obligation with hypotheses, states and operands that meet those of every clause -/

theorem fits_of_header {s : State} (hd : s.raster.decoder = .header) (hf : s.raster.fifo = []) : s.streamFits := by
  simp [State.streamFits, RasterPort.decoderFits, hd, hf]

theorem witness_StepRunsFrontCommand : ({ base with pending := [.gateEnd] } : State).pending = .gateEnd :: [] ∧ base.pending = [] :=
  ⟨rfl, rfl⟩

theorem witness_ResetHoldsEveryBlock : (after .powerUp base).sup.phase ≠ .running ∧ Instr.gateEnd ≠ .powerUp ∧
    ∀ strap plates dir a f, Instr.gateEnd ≠ .hardResetEnd strap plates dir a f := ⟨by decide +kernel, by decide, nofun⟩

theorem witness_HardResetsGiveResetValues : base.sup.phase = .running ∧ (after .hardResetBegin base).sup.phase = .heldByLines ∧
    (after .powerUp base).sup.phase = .powerUp := by decide +kernel

/-- A filter of slot 0 in `base`. -/
def filtered (raw debounced : Bool) (s : State) : State :=
  { s with plates := s.plates.set 0 { raw := raw, debounced := debounced, settling := true } }

theorem witness_PlateLevelsSettle : base.sup.phase = .running ∧ base.plates[0].raw ≠ true ∧ base.plates[0].settling = false ∧
    (filtered true true base).plates[0].settling = true ∧ (filtered true true base).plates[0].raw = (filtered true true base).plates[0].debounced ∧
    (filtered true false base).plates[0] = { raw := true, debounced := false, settling := true } ∧
    ((filtered true false base).master 0).state = .empty ∧
    (filtered false true (plated .failed)).plates[0] = { raw := false, debounced := !false, settling := true } ∧
    ((plated .failed).master 0).state = .failed ∧ ((plated .releasing).master 0).state = .releasing := by decide +kernel

theorem witness_PlateRemovedEmptiesSlot :
    (leaving (plated .loaded)).plates[0] = { raw := false, debounced := true, settling := true } ∧
    ((leaving (plated .loaded)).master 0).state = .loaded ∧ ((leaving (plated .spent)).master 0).state = .spent ∧
    (leaving (plated .spent)).sup.phase = .running := by decide +kernel

theorem witness_PlateRemovedFailsLiveMaster : (leaving (film .opened .loaded)).sup.phase = .running ∧
    (leaving (film .opened .loaded)).plates[0] = { raw := false, debounced := true, settling := true } ∧
    ((leaving (film .opened .loaded)).master 0).state.live = true ∧ (leaving (film .opened .loaded)).streamFits :=
  ⟨rfl, by decide +kernel, by decide +kernel, fits_of_header rfl rfl⟩

/-- A gate that runs. -/
def gating (f : Bool) (s : State) : State :=
  { s with dose := { s.dose with calibration := .running f, counter := .gating, gateTimer := true, count := 5200 } }

/-- The SHOW of a job strobed, its PANEL_READY awaited. -/
def awaiting (s : State) : State := { s with panel := { s.panel with awaiting := true } }

/-- Reports of another slot and of a job whose plate is there; then a job whose plate is gone, for each event: the two reports, a gate's end,
the end of the move, the panel timer, the target at the next edge, the limit timer and the lamp-dark window. -/
theorem witness_RemovalReportEndsTheJob :
    ((reported 1 (exposingPage 5)).sup.phase = .running ∧ (reported 1 (exposingPage 5)).removalReports = 1 :: [] ∧
      (∀ j ∈ (reported 1 (exposingPage 5)).seq.job, j.slot ≠ 1) ∧
      ∀ j ∈ (reported 0 (exposingPage 5)).seq.job, (reported 0 (exposingPage 5)).jobPlateGone j = false) ∧
    (∀ ready, (plateGone (preparingPage ready true)).jobPlateGone (job (.document 0 0) ready true) = true ∧
      (plateGone (preparingPage ready true)).seq.job = some (job (.document 0 0) ready true)) ∧
    ((plateGone (exposingPage 127)).jobPlateGone (job (.document 0 0) true true) = true ∧
      (plateGone (exposingPage 127)).seq.job = some (job (.document 0 0) true true)) ∧
    (reported 0 (plateGone (exposingPage 127))).removalReports = (job (.document 0 0) true true).slot :: [] ∧
    (plateGone (exposingPage 127)).streamFits ∧ (plateGone (preparingPage true true)).streamFits ∧
    (plateGone (exposingPage 127)).pins.flush = false ∧ (plateGone (preparingPage true true)).dose.gateRuns = false ∧
    (awaiting (plateGone (preparingPage true false))).panel.awaiting = true ∧
    (gating true (plateGone (preparingPage true true))).dose.calibration = .running true ∧
    ((plateGone (preparingPage false true)).motion.port = .moving ∧ (plateGone (preparingPage false true)).motion.moveTimer = true) ∧
    (plateGone (preparingPage true false)).seq.panelTimer = true ∧
    ((plateGone (exposingPage 127)).dose.counter = .integrating ∧
      (job (.document 0 0) true true).target ≤ (plateGone (exposingPage 127)).dose.count + 1) ∧
    (plateGone (exposingPage 127)).dose.limitTimer = true ∧ (plateGone (exposingPage 0)).dose.darkWindow = .running := by
  refine ⟨⟨rfl, rfl, by simp [reported, exposingPage, exposing, job], ?_⟩, by decide +kernel, by decide +kernel, rfl,
    fits_of_header rfl rfl, fits_of_header rfl rfl, rfl, rfl, rfl, rfl, ⟨rfl, rfl⟩, rfl, ⟨rfl, by decide +kernel⟩, rfl, rfl⟩
  intro j hj
  obtain rfl : job (.document 0 0) true true = j := by simpa [reported, exposingPage, exposing] using hj
  decide +kernel

/-- Slot 0 at the head of the release queue. -/
def releasing (s : State) : State := { s with releaseQueue := [0] }

/-- Two records of slot 0 in RELEASING. -/
def twoPages : State :=
  let s := film .releasing .lost
  releasing { s with dir := { s.dir with keyTable := [page .lost, { page .lost with entry := 3, key := { key5 with page := 2 }, cell := 1 }] } }

theorem witness_ReleaseDeletionRuns : twoPages.sup.phase = .running ∧ twoPages.releaseQueue = 0 :: [] ∧
    ({ twoPages with raster := { twoPages.raster with place := .inProgress 0 } } : State).raster.place = .inProgress 0 ∧
    twoPages.raster.place ≠ .inProgress 0 ∧
    twoPages.recordsOf 0 = page .lost :: { page .lost with entry := 3, key := { key5 with page := 2 }, cell := 1 } :: [] ∧
    (releasing (film .releasing .exposed)).recordsOf 0 = [page .exposed] ∧ (releasing (plated .releasing)).recordsOf 0 = [] := by
  decide +kernel

theorem witness_RequestDispatchChecks :
    requestParts (.halt .direct 3) = some (.direct, 3, 0x10, []) ∧ (atIface .waitMark).sup.phase = .running ∧
    (atIface .waitMark).link.iface ≠ .request ∧ base.link.iface = .request ∧
    (requestParts (.halt .group 0) = some (.group, 0, 0x10, []) ∧ (0x10 : Byte) ≠ 0x01 ∧ (0x10 : Byte) ≠ 0x06 ∧ (0x10 : Byte) ≠ 0x07) ∧
    (requestParts (.place .group 3 key5 0) = some (.group, 3, 0x06, [0, 0, 0, 0, 5, 1, 1, 0]) ∧ (releasing base).releaseQueue ≠ []) ∧
    base.authorises (.halt .direct 3) = false ∧ (releasing base).authorises (.halt .direct 0) = true :=
  ⟨rfl, rfl, nofun, rfl, ⟨rfl, by decide, by decide, by decide⟩, ⟨rfl, nofun⟩, rfl, rfl⟩

theorem witness_takesRequest : base.takesRequest ∧ base.releaseQueue = [] := ⟨⟨rfl, rfl⟩, rfl⟩

theorem witness_StatusReportsTheWriter : base.takesRequest ∧ ((1 : Byte) = 0 ∨ (1 : Byte) = 1 ∧ (0 : Node) = 0) ∧
    (2 : Byte) ≠ 0 ∧ (2 : Byte) ≠ 1 := ⟨⟨rfl, rfl⟩, by decide, by decide, by decide⟩

/-- A second master, OPEN over accounts 4 to 9, beside a LOADED plate in slot 0. -/
def beside : State :=
  let s := plated .loaded
  { s with masters := s.masters.set 1 { state := .opened, generation := 0, failure := none, fields := some { g3 with accountLow := 4 } } }

theorem witness_MasterOpenMakesTheMaster : beside.takesRequest ∧ beside.releaseQueue = [] ∧ 5 < (6 : Byte).toNat ∧
    (5 : Byte).toNat = (5 : Slot).val ∧ ((plated .failed).master 0).state = .failed ∧ ((plated .opened).master 0).state ≠ .failed ∧
    ((plated .opened).master 0).state ≠ .loaded ∧ (beside.master 0).state = .loaded ∧ (∀ f : Format, (4 : Byte) ≠ f.code) ∧
    (3 : Account).toNat < (4 : Account).toNat ∧ (3 : Byte) = Format.g3.code ∧
    ((1 : Slot) ≠ 0 ∧ (beside.master 1).state = .opened ∧
      ∃ g ∈ (beside.master 1).fields, (0 : Account).toNat ≤ g.accountHigh.toNat ∧ g.accountLow.toNat ≤ (4 : Account).toNat) ∧
    (∀ o, o ≠ 0 → (beside.master o).state = .opened →
      ∀ g ∈ (beside.master o).fields, (3 : Account).toNat < g.accountLow.toNat ∨ g.accountHigh.toNat < (0 : Account).toNat) := by
  refine ⟨⟨rfl, rfl⟩, rfl, by decide, by decide, by decide +kernel, by decide +kernel, by decide +kernel, by decide +kernel,
    fun f => by cases f <;> decide, by decide, by decide, ⟨by decide, by decide +kernel, { g3 with accountLow := 4 }, by decide +kernel, by decide⟩, ?_⟩
  intro o ho hs g hg
  have h1 : ∀ o : Slot, o ≠ 0 → (beside.master o).state = .opened → o = 1 := by decide +kernel
  obtain rfl := h1 o ho hs
  have : g = { g3 with accountLow := 4 } := by simpa [beside, State.master] using hg.symm
  subst this; decide

theorem witness_MasterCloseAndStateAnswer : (film .opened .exposed).takesRequest ∧ (film .opened .exposed).releaseQueue = [] ∧
    5 < (6 : Byte).toNat ∧ (0 : Byte).toNat = (0 : Slot).val ∧ ((plated .failed).master 0).state = .failed ∧
    ((plated .loaded).master 0).state ≠ .failed ∧ ((plated .loaded).master 0).state ≠ .opened ∧
    ((film .opened .exposed).master 0).state = .opened :=
  ⟨⟨rfl, rfl⟩, rfl, by decide, by decide, by decide +kernel, by decide +kernel, by decide +kernel, by decide +kernel⟩

theorem witness_ReleaseIsEntered :
    ((plated .finished).takesRequest ∧ (plated .finished).releaseQueue = [] ∧ 5 < (6 : Byte).toNat ∧ (0 : Byte).toNat = (0 : Slot).val) ∧
    ((plated .spent).master 0).state = .spent ∧
    ((bound .shown (.title 0) (plated .indexed)).bank .a).state = .shown ∧ (bound .shown (.title 0) (plated .indexed)).bankSlot .a = some 0 ∧
    (((bound .loaded (.title 0) (plated .indexed)).master 0).state.live = true ∧
      (∀ id, (bound .loaded (.title 0) (plated .indexed)).bankSlot id = some 0 →
        ((bound .loaded (.title 0) (plated .indexed)).bank id).state ≠ .filling ∧
        ((bound .loaded (.title 0) (plated .indexed)).bank id).state ≠ .shown) ∧
      (bound .loaded (.title 0) (plated .indexed)).streamFits) ∧
    ((leaving (plated .finished)).plates[0] = { raw := false, debounced := true, settling := true } ∧
      ((leaving (plated .finished)).master 0).state = .finished ∧ (leaving (plated .finished)).streamFits) :=
  ⟨⟨⟨rfl, rfl⟩, rfl, by decide, by decide⟩, by decide +kernel, by decide +kernel, by decide +kernel,
    ⟨by decide +kernel, fun id => by cases id <;> decide +kernel, fits_of_header rfl rfl⟩,
    ⟨by decide +kernel, by decide +kernel, fits_of_header rfl rfl⟩⟩

theorem witness_coveredOnlyBy {s : State} (h0 : s.master 0 = { state := .opened, generation := 8, failure := none, fields := some g3 })
    (ho : ∀ o : Slot, o ≠ 0 → (s.master o).state ≠ .opened) : s.coveredOnlyBy 5 0 g3 := by
  refine ⟨by rw [h0], by rw [h0], by decide, by decide, fun o hs _ => ?_⟩
  by_contra hne
  exact ho o hne hs

theorem witness_firstFree : g3.firstFree 0 := ⟨rfl, fun n hn => absurd hn (by omega)⟩

/-- The refusals in their order, then a PLACE that passes. -/
theorem witness_PlaceCreatesTheRecord : (plated .opened).takesRequest ∧ (plated .opened).releaseQueue = [] ∧
    ({ key5 with cycle := 0 } : Key).cycle = 0 ∧ ({ key5 with page := 0 } : Key).page = 0 ∧ 7 < (8 : Byte).toNat ∧ (7 : Byte).toNat ≤ 7 ∧
    (∃ r ∈ (film .opened .lost).dir.keyTable, r.key = key5 ∧ r.state ≠ .withdrawn) ∧
    (∀ r ∈ (film .opened .withdrawn).dir.keyTable, r.key = key5 → r.state = .withdrawn) ∧ (plated .closing).coveredByNone key5.account ∧
    (∀ c ∈ ({ g3 with cells := List.replicate 71 .held ++ [.index] } : MasterFields).cells, c ≠ .free) ∧
    ({ plated .opened with dir := { base.dir with freeList := [] } } : State).dir.freeList = [] ∧
    (7 : Byte).toNat = (7 : DoseClass).val ∧ key5.cycle ≠ 0 ∧ key5.page ≠ 0 ∧
    (∀ r ∈ (plated .opened).dir.keyTable, r.key = key5 → r.state = .withdrawn) ∧ (plated .opened).coveredOnlyBy key5.account 0 g3 ∧
    g3.firstFree 0 ∧ ({ plated .opened with dir := { base.dir with freeList := [9] } } : State).dir.freeList = 9 :: [] :=
  ⟨⟨rfl, rfl⟩, rfl, rfl, rfl, by decide, by decide, ⟨page .lost, by decide +kernel, rfl, nofun⟩, by decide +kernel,
    fun o ho => absurd ho (by revert o; decide +kernel), by decide +kernel, rfl,
    by decide, by decide, by decide, nofun, witness_coveredOnlyBy (by decide +kernel) (by decide +kernel), witness_firstFree, rfl⟩

theorem witness_LookupChoosesTheRecord : (film .opened .awaiting).takesRequest ∧ (film .opened .awaiting).releaseQueue = [] ∧
    (∀ r ∈ base.dir.keyTable, r.key ≠ key5) ∧ (∃ r ∈ (film .opened .awaiting).dir.keyTable, r.key = key5) :=
  ⟨⟨rfl, rfl⟩, rfl, nofun, page .awaiting, by decide +kernel, rfl⟩

theorem witness_FetchGivesTheRecordImage : page291.takesRequest ∧ page291.releaseQueue = [] ∧
    (∃ r, page291.dir.keyTable.filter (fun x => decide (x.entry.val = ((0x48C5 : Half).extractLsb' 6 10).toNat)) = [r] ∧
      page291.dir.stamps[r.entry] = (0x48C5 : Half).extractLsb' 0 6) ∧
    page291.dir.stamps[((0x48C4 : Half).extractLsb' 6 10).toFin] ≠ (0x48C4 : Half).extractLsb' 0 6 ∧
    (∀ x ∈ page291.dir.keyTable, x.entry.val ≠ ((0xFFC0 : Half).extractLsb' 6 10).toNat) :=
  ⟨⟨rfl, rfl⟩, rfl, ⟨_, rfl, by decide +kernel⟩, by decide +kernel, by decide +kernel⟩

theorem witness_RekeyChangesKeyOrMaster : (film .opened .awaiting).takesRequest ∧ (film .opened .awaiting).releaseQueue = [] ∧
    base.resolve 0 = none ∧ (film .opened .awaiting).resolve 0 = some (page .awaiting) ∧ (6 : Node) = (page .awaiting).source ∧
    key5.cycle ≠ 0 ∧ key5.page ≠ 0 ∧ ({ key5 with page := 0 } : Key).page = 0 ∧
    ((film .failed .lost).master 0).state = .failed ∧ (film .failed .lost).resolve 0 = some (page .lost) ∧
    ((film .opened .exposed).resolve 0 = some (page .exposed) ∧ (page .exposed).state ≠ .awaiting ∧ (page .exposed).state ≠ .filling ∧
      (page .exposed).state ≠ .loaded) ∧
    (∃ x ∈ twoPages.dir.keyTable, x.entry ≠ 0 ∧ x.key = { key5 with page := 2 } ∧ x.state ≠ .withdrawn) ∧
    (∀ x ∈ (film .opened .awaiting).dir.keyTable, x.entry ≠ 0 → x.key = key5 → x.state = .withdrawn) ∧
    g3.accountLow.toNat ≤ (9 : Account).toNat ∧ (9 : Account).toNat ≤ g3.accountHigh.toNat ∧
    ¬ (g3.accountLow.toNat ≤ (10 : Account).toNat ∧ (10 : Account).toNat ≤ g3.accountHigh.toNat) ∧
    (film .closing .awaiting).coveredByNone 10 ∧
    (∀ c ∈ ({ g3 with cells := List.replicate 71 .held ++ [.index] } : MasterFields).cells, c ≠ .free) :=
  ⟨⟨rfl, rfl⟩, rfl, by decide +kernel, by decide +kernel, by decide, by decide, by decide, by decide, by decide +kernel, by decide +kernel,
    by decide +kernel, ⟨_, List.mem_cons_of_mem _ (List.mem_cons_self ..), by decide +kernel⟩, by decide +kernel, by decide, by decide, by decide,
    fun o ho => absurd ho (by revert o; decide +kernel), by decide +kernel⟩

/-- A record of a CLOSING master in slot 0 beside an OPEN one in slot 1 over accounts 10 to 19. -/
def movable : State :=
  let s := film .closing .awaiting
  { s with
    masters := s.masters.set 1
      { state := .opened, generation := 0, failure := none, fields := some { g3 with accountLow := 10, accountHigh := 19 } } }

theorem witness_RekeyMoves : movable.takesRequest ∧ movable.resolve 0 = some (page .awaiting) ∧
    (movable.master 1).state = .opened ∧ (movable.master 1).fields = some { g3 with accountLow := 10, accountHigh := 19 } ∧
    (∀ o, (movable.master o).state = .opened → o = 1) ∧ ({ g3 with accountLow := 10, accountHigh := 19 } : MasterFields).firstFree 0 :=
  ⟨⟨rfl, rfl⟩, by decide +kernel, by decide +kernel, by decide +kernel, by decide +kernel, rfl, fun n hn => absurd hn (by omega)⟩

theorem witness_SetClassAndReplaceChangeTheRecord : (film .opened .loaded).takesRequest ∧ base.resolve 0 = none ∧
    (film .opened .loaded).resolve 0 = some (page .loaded) ∧ 7 < (8 : Byte).toNat ∧ (7 : Byte).toNat = (7 : DoseClass).val ∧
    ((film .failed .lost).master 0).state = .failed ∧ ((film .opened .loaded).master 0).state ≠ .failed ∧
    ((film .opened .exposed).resolve 0 = some (page .exposed) ∧ (page .exposed).state ≠ .awaiting ∧ (page .exposed).state ≠ .filling ∧
      (page .exposed).state ≠ .loaded) ∧
    ((film .closing .spoiled).resolve 0 = some (page .spoiled) ∧ ((film .closing .spoiled).master 0).state = .closing ∧
      ((film .closing .spoiled).master 0).fields = some { g3 with cells := g3.cells.set 0 .void }) ∧
    ({ g3 with cells := g3.cells.set 0 .void } : MasterFields).firstFree 1 ∧
    (∀ c ∈ ({ g3 with cells := List.replicate 71 .void ++ [.index] } : MasterFields).cells, c ≠ .free) := by
  refine ⟨⟨rfl, rfl⟩, by decide +kernel, by decide +kernel, by decide, by decide, by decide +kernel, by decide +kernel, by decide +kernel,
    by decide +kernel, ⟨by decide +kernel, fun n hn => ?_⟩, by decide +kernel⟩
  obtain rfl : n = 0 := by omega
  decide +kernel

theorem witness_RetireActsByState : (film .opened .awaiting).takesRequest ∧ base.resolve 0 = none ∧
    (∀ st ∈ [RecState.awaiting, .filling, .loaded, .inFlight, .exposed, .withdrawn, .spoiled, .lost],
      (film .opened st).resolve 0 = some (page st)) ∧ (film .opened .filling).streamFits ∧
    ((film .opened .awaiting).master 0).state = .opened ∧ ((film .indexing .exposed).master 0).state = .indexing ∧
    (film .indexing .exposed).resolve 0 = some (page .exposed) :=
  ⟨⟨rfl, rfl⟩, by decide +kernel, by decide +kernel, fits_of_header rfl rfl, by decide +kernel, by decide +kernel, by decide +kernel⟩

theorem witness_IndexAndTitleAreRead : (film .finished .exposed).takesRequest ∧ (film .finished .exposed).releaseQueue = [] ∧
    5 < (6 : Byte).toNat ∧ (5 : Byte).toNat = (5 : Slot).val ∧ (base.master 5).state = .empty ∧
    ((film .failed .exposed).master 0).state = .failed ∧ ((film .finished .exposed).master 0).state = .finished :=
  ⟨⟨rfl, rfl⟩, rfl, by decide, by decide, by decide +kernel, by decide +kernel, by decide +kernel⟩

theorem witness_ListingIsQueued : (film .settled .exposed).takesRequest ∧ 5 < (6 : Byte).toNat ∧ (0 : Byte).toNat = (0 : Slot).val ∧
    ((film .failed .exposed).master 0).state = .failed ∧ ((plated .spent).master 0).state = .spent ∧
    ((film .settled .exposed).master 0).state.live = true ∧ listingDue.raster.place ≠ .empty ∧
    (film .settled .exposed).raster.place = .empty :=
  ⟨⟨rfl, rfl⟩, by decide, by decide, by decide +kernel, by decide +kernel, by decide +kernel, by decide +kernel, rfl⟩

theorem witness_HaltAndResumeMoveThePath : (exposingPage 1).takesRequest ∧ (exposingPage 1).seq.path = .exposing ∧ base.seq.path = .idle ∧
    (atPath .halted base).seq.path = .halted ∧ (atPath .faulted base).seq.path = .faulted ∧ (atPath .faulted base).takesRequest :=
  ⟨⟨rfl, rfl⟩, rfl, rfl, rfl, rfl, rfl, rfl⟩

theorem witness_CalibrateStartsOrWaits : base.takesRequest ∧ (2 : Byte) ≠ 0 ∧ (2 : Byte) ≠ 1 ∧ (gating true base).dose.calibration ≠ .none ∧
    (gating true base).takesRequest ∧ ((exposingPage 1).dose.calibration = .none ∧ (exposingPage 1).seq.path = .exposing) ∧
    (base.dose.calibration = .none ∧ base.seq.path ≠ .exposing) :=
  ⟨⟨rfl, rfl⟩, by decide, by decide, nofun, ⟨rfl, rfl⟩, ⟨rfl, rfl⟩, rfl, nofun⟩

/-- The checks at the ends of their ranges: table 2, indexes 0, 4 and 8, values 0, 255 and 256. -/
theorem witness_SetDoseWritesOneEntry : base.takesRequest ∧ (releasing base).takesRequest ∧ (releasing base).releaseQueue ≠ [] ∧
    1 < (2 : Byte).toNat ∧ 3 < (4 : Byte).toNat ∧ 7 < (8 : Byte).toNat ∧ 255 < (256 : Half).toNat ∧ (255 : Half).toNat ≤ 255 ∧
    (1 : Byte).toNat = (0 : Fin 3).val + 1 ∧ (3 : Byte).toNat = (2 : Fin 3).val + 1 ∧ (7 : Byte).toNat = (7 : DoseClass).val :=
  ⟨⟨rfl, rfl⟩, ⟨rfl, rfl⟩, by decide, by decide, by decide, by decide, by decide, by decide, by decide, by decide, by decide⟩

theorem witness_SetTrimAndSetLampWrite : base.takesRequest ∧ 5 < (6 : Byte).toNat ∧ (5 : Byte).toNat = (5 : Slot).val ∧ (1 : Byte) ≠ 0 ∧
    ((plated .failed).master 0).state = .failed ∧ (base.master 5).state ≠ .failed ∧ (exposingPage 1).seq.path = .exposing ∧
    (gating true base).dose.gateRuns = true ∧ base.seq.path ≠ .exposing ∧ base.dose.gateRuns = false :=
  ⟨⟨rfl, rfl⟩, by decide, by decide, by decide, by decide +kernel, by decide +kernel, rfl, rfl, nofun, rfl⟩

theorem witness_RequestPortionsDecode : requestParts (.status .direct 0 0) = some (.direct, 0, 0x01, [0]) ∧ base.takesRequest ∧
    base.link.rx = { bytes := [], bits := [] } ∧ portionBytes 3 (targetOf base.link.nodeId .direct) 0 0x01 [0] = [0x64, 0x01, 0x01, 0x00, 0x9B] :=
  ⟨rfl, ⟨rfl, rfl⟩, rfl, by decide +kernel⟩

theorem witness_TurnGapRejectsPortions : base.takesRequest ∧ base.link.rx = { bytes := [], bits := [] } ∧
    (([true] : List Bool).length < 8 ∧ [true] ≠ ([] : List Bool)) ∧
    (∀ b1 : Byte, ([0x64, 0x01, 0x01, 0x9B] : List Byte)[1]? = some b1 → 4 ≠ 4 + (b1.extractLsb' 0 4).toNat) ∧
    (([0x01, 0x00] : List Byte).length = 1 + ((0x01 : Byte).extractLsb' 0 4).toNat ∧ crc [0x64, 0x01, 0x01, 0x00] ≠ 0x9C) ∧
    ((5 : BitVec 5) ≠ 31 ∧ (5 : BitVec 5).toNat ≠ base.link.nodeId.toNat) ∧
    (([] : List Byte).length ≤ 15 ∧ (∀ n, codeLength 0x16 = some n → ([] : List Byte).length ≠ n) ∧
      (∀ n, codeLength 0x06 = some n → ([] : List Byte).length ≠ n)) := by
  refine ⟨⟨rfl, rfl⟩, rfl, by decide, ?_, by decide +kernel, by decide, by decide, ?_, ?_⟩
  · intro b1 h; cases h; decide
  · intro n h; exact absurd h (by decide +revert)
  · intro n h; cases h; decide

theorem witness_LinkEventsOutsideAnswer : (atIface .off).link.iface = .off ∧ (atIface .sync).link.iface = .sync ∧
    (atIface .waitMark).link.iface = .waitMark ∧ base.link.iface = .request ∧ (atIface .rollWait).link.iface = .rollWait ∧
    (atIface .rollWait).sup.phase = .running := ⟨rfl, rfl, rfl, rfl, rfl, rfl⟩

/-- A tail in ANSWER that is cut off with its cause open. -/
def cutTail : State :=
  { base with link := { base.link with iface := .answer, tail := some { bytes := .ack 0x40, nextBit := 3, cut := true } }
              answer := some (asked false) }

theorem witness_TailsAreReadAndCompleted :
    (answering (.data 0x40 none []) (asked true) base).link.tail = some { bytes := .data 0x40 none [], nextBit := 0, cut := false } ∧
    (answering (.ack 0x40) (asked false) base).link.iface = .answer ∧
    (∀ head payload, TailBytes.ack 0x40 ≠ .data head none payload) ∧ cutTail.link.iface = .answer ∧
    cutTail.link.tail = some { bytes := .ack 0x40, nextBit := 3, cut := true } := ⟨rfl, rfl, nofun, rfl, rfl⟩

/-- 40h is 0100 0000: a loss at bit 1, a bit error at bit 3, neither at the other, and nothing at all from bit 8 on. A DATA tail is met with
its status byte unread at bits 7 and 8. -/
theorem witness_CutOffTailsEndByTheirCause : cutTail.sup.phase = .running ∧ cutTail.link.iface = .answer ∧
    cutTail.link.tail = some { bytes := .ack 0x40, nextBit := 3, cut := true } ∧
    (differs [0x40] 3 .bitError ∧ ¬ differs [0x40] 3 .lostArbitration ∧ differs [0x40] 1 .lostArbitration ∧ ¬ differs [0x40] 1 .bitError ∧
      differs [0x40] 7 .unsettled ∧ ¬ differs [0x40] 8 .unsettled) ∧
    ((answering (.data 0x40 none []) (asked false) base).link.tail = some { bytes := .data 0x40 none [], nextBit := 0, cut := false } ∧
      (∀ p, (answering (.data 0x40 none []) (asked false) base).answer = some p → p.created = none) ∧ 7 < 8 ∧ 8 ≤ 8 ∧
      exec .statusByteRead (answering (.data 0x40 none []) (asked false) base) =
        .next (after .statusByteRead (answering (.data 0x40 none []) (asked false) base)) ∧
      differs (base.bytesAt 8 (.data 0x40 none [])).sent 8 .bitError) ∧
    (∀ head payload, TailBytes.ack 0x40 ≠ .data head none payload) :=
  ⟨rfl, rfl, rfl, by simp only [differs]; decide +kernel,
    ⟨rfl, fun p h => by cases h; rfl, by decide, by decide, rfl, by simp only [differs]; decide +kernel⟩, nofun⟩

theorem witness_CutOffPlacementsAreRolledBack :
    let s (st : RecState) := answering (.data 0x40 none [0, 0, 0, 0]) placed (film .opened st)
    (s .awaiting).sup.phase = .running ∧ (s .awaiting).link.iface = .answer ∧ (s .awaiting).answer = some placed ∧
      placed.created = some 0 ∧ placed.clearing = false ∧ (s .loaded).streamFits ∧
      (differs ((s .awaiting).bytesAt 1 (.data 0x40 none [0, 0, 0, 0])).sent 1 .lostArbitration ∧
        differs ((s .awaiting).bytesAt 8 (.data 0x40 none [0, 0, 0, 0])).sent 8 .unsettled) ∧
      ∀ st ∈ [RecState.awaiting, .filling, .loaded, .inFlight, .exposed, .withdrawn, .spoiled, .lost], (s st).resolve 0 = some (page st) :=
  ⟨rfl, rfl, rfl, rfl, rfl, fits_of_header rfl rfl, by simp only [differs]; decide +kernel, by decide +kernel⟩

theorem witness_CrcCatchesEveryOneByteChange : (0x64 : Byte) ≠ 0x65 := by decide

/-- Both banks taken. -/
def fullBanks (s : State) : State :=
  { s with panel := { s.panel with bankA := { s.panel.bankA with state := .shown }, bankB := { s.panel.bankB with state := .loaded } } }

/-- The FIFO at its ends: 63 and 64 words; a fill before its last word and one before that. -/
theorem witness_HalfWordsMakeWords : base.sup.phase = .running ∧ base.raster.direction = .inbound ∧
    64 ≤ (stream .discard (List.replicate 64 0) base).raster.fifo.length ∧ base.pins.flush = false ∧
    (stream .waitBank (List.replicate 63 0) base).raster.fifo.length < 64 ∧ base.raster.loneHalf = none ∧
    (after (.halfWordIn ⟨5, true⟩) base).raster.loneHalf = some 5 ∧ (after (.halfWordIn ⟨5, true⟩) base).raster.strobed = true ∧
    base.raster.strobed = false ∧ base.raster.decoder = .header ∧ base.raster.fifo.length < 3 ∧
    (stream .header [1, 2, 3] base).raster.fifo.length = 3 ∧ (stream (.drain 1) [] base).raster.decoder = .drain 1 ∧
    (∀ id, ((fullBanks base).bank id).state ≠ .free) ∧ (stream .discard [] base).raster.decoder = .discard ∧
    (stream (.drain 2) [] base).raster.decoder = .drain (0 + 2) ∧
    (lastWord none 0 base).memoryConsistent ∧ 63 + 1 = (1 : Fin 1537).val * 64 ∧ 62 + 1 < (1 : Fin 1537).val * 64 :=
  ⟨rfl, rfl, by decide +kernel, rfl, by decide +kernel, rfl, by decide +kernel, rfl, rfl, rfl, by decide, rfl, rfl,
    fun id => by cases id <;> decide +kernel, rfl, rfl,
    by simp [State.memoryConsistent, lastWord, stream, base, State.reset, Bank.blank, Memory.wf], by decide, by decide⟩

/-- A header in WAIT_BANK. -/
def headed (kind slot : Byte) (handle gen rows : Half) (s : State) : State :=
  stream .waitBank [(0x6B2D : Half) ++ kind ++ slot, handle ++ gen, rows ++ (0 : Half), 0] s

/-- Nothing to take or examine; four words with a fifth behind them; then each check, failed and passed. -/
theorem witness_HeadersAreExamined :
    (∀ fifo, (stream .header fifo (plated .settled)).raster.decoder = .header ∧ (stream .header fifo (plated .settled)).isFreeBank .a) ∧
    (base.raster.decoder ≠ .waitBank ∧ base.raster.fifo.length < 4 ∧ (stream .discard [] base).raster.decoder ≠ .header) ∧
    ((base.bank .a).state = .free ∧ 4 ≤ (stream .header [1, 2, 3, 4] base).raster.fifo.length ∧
      (stream .header [1, 2, 3, 4] base).pins.flush = false ∧ (stream .header [1, 2, 3, 4] base).raster.direction = .inbound ∧
      exec .headerTaken (stream .header [1, 2, 3, 4] base) = .next (after .headerTaken (stream .header [1, 2, 3, 4] base)) ∧
      (after .headerTaken (stream .header [1, 2, 3, 4] base)).raster.fifo.length < 64) ∧
    (headed 1 0 0 0 1 base).raster.fifo = [(0x6B2D : Half) ++ (1 : Byte) ++ (0 : Byte), (0 : Half) ++ (0 : Half), (1 : Half) ++ (0 : Half), 0] ∧
    ((∀ which, ((fullBanks (stream .header [1, 2, 3, 4, 5] base)).bank which).state ≠ .free) ∧
      4 ≤ (fullBanks (stream .header [1, 2, 3, 4, 5] base)).raster.fifo.length ∧
      (fullBanks (headed 1 0 0 0 1 base)).raster.decoder = .waitBank ∧
      ∀ which, ((fullBanks (headed 1 0 0 0 1 base)).bank which).state ≠ .free) ∧ (headed 1 0 0 0 1 base).isFreeBank .a ∧
    (headed 1 0 0 0 1 base).raster.decoder = .waitBank ∧ (0x6B2C : Half) ≠ 0x6B2D ∧ 1536 < (1537 : Half).toNat ∧
    (1536 : Half).toNat ≤ 1536 ∧ ((4 : Byte) ≠ 1 ∧ (4 : Byte) ≠ 2 ∧ (4 : Byte) ≠ 3) ∧ (headed 1 0 0 0 1 base).resolve 0 = none ∧
    ((headed 1 0 0 0 1 (film .opened .awaiting)).resolve 0 = some (page .awaiting) ∧ ((film .opened .awaiting).master 0).state = .opened) ∧
    ((headed 1 0 0 0 1 (film .opened .exposed)).resolve 0 = some (page .exposed)) ∧ 5 < (6 : Byte).toNat ∧
    (((headed 2 0 0 8 1 (plated .settled)).master 0).state = .settled ∧ ((headed 2 0 0 8 1 (plated .settled)).master 0).fields = some g3 ∧
      g3.format.indexParts ≤ (1 : Half).toNat ∧ (0 : Half).toNat < g3.format.indexParts ∧
      g3.cells[g3.format.docCells + 0]? ≠ some .exposedIndex ∧
      (∀ which, ((headed 2 0 0 8 1 (plated .settled)).bank which).binding ≠ some (.index 0 0)) ∧
      (8 : Half) = ((headed 2 0 0 8 1 (plated .settled)).master 0).generation ∧
      (7 : Half) ≠ ((headed 2 0 0 7 1 (plated .settled)).master 0).generation) ∧
    (((headed 3 0 0 0 1 (plated .indexed)).master 0).state = .indexed ∧
      (∀ which, ((headed 3 0 0 0 1 (plated .indexed)).bank which).binding ≠ some (.title 0))) ∧
    ((headed 3 0 0 0 1 (plated .opened)).master 0).state ≠ .indexed :=
  ⟨fun _ => ⟨rfl, rfl⟩, ⟨nofun, by decide, nofun⟩, ⟨rfl, by decide, rfl, rfl, rfl, by decide +kernel⟩,
    rfl, ⟨fun id => by cases id <;> decide +kernel, by decide +kernel, rfl, fun id => by cases id <;> decide +kernel⟩, rfl, rfl,
    by decide, by decide, by decide, by decide, by decide +kernel, by decide +kernel, by decide +kernel, by decide,
    ⟨by decide +kernel, by decide +kernel, by decide, by decide, by decide +kernel, fun id => by cases id <;> decide +kernel,
      by decide +kernel, by decide +kernel⟩,
    ⟨by decide +kernel, fun id => by cases id <;> decide +kernel⟩, by decide +kernel⟩

theorem witness_FillsAndDrainsEnd :
    let s (bd : Option Binding) (sum : Word) := lastWord bd sum (film .opened .filling)
    ((stream (.drain 1) [7] base).raster.decoder = .drain 1 ∧ (stream (.drain 1) [7] base).raster.fifo = 7 :: []) ∧
      (s none 0).sup.phase = .running ∧ (s none 0).raster.fifo = 0x10000 :: [] ∧
      63 + 1 = (1 : Fin 1537).val * 64 ∧ (s none 0).memoryConsistent ∧ ((s none 0).bank .a).binding = none ∧
      ((s (some (.record 0)) 0x400000).bank .a).binding = some (.record 0) ∧ (0x3F0000 + 0x10000 : Word) = 0x400000 ∧
      (s (some (.record 0)) 0x400000).resolve 0 = some (page .filling) ∧ (0x3F0000 + 0x10000 : Word) ≠ 0x400001 :=
  ⟨⟨rfl, rfl⟩, rfl, rfl, by decide,
    by simp [State.memoryConsistent, lastWord, stream, film, plated, base, State.reset, Bank.blank, Memory.wf],
    rfl, rfl, by decide, by decide +kernel, by decide⟩

theorem witness_FlushEmptiesThePort : base.sup.phase = .running ∧ (∀ f, base.raster.decoder ≠ .fill f) ∧
    base.raster.decoder ≠ .listing ∧ listingRuns.raster.decoder = .listing ∧
    ((lastWord none 0 base).bank .a).binding = none ∧ ((lastWord (some (.title 0)) 0 base).bank .a).binding = some (.title 0) :=
  ⟨rfl, nofun, nofun, rfl, rfl, rfl⟩

theorem witness_FlushHoldsThePort : ({ base with pins := { base.pins with flush := true } } : State).pins.flush = true ∧
    base.raster.direction = .inbound ∧ listingRuns.raster.direction = .outbound ∧ base.sup.phase = .running := by decide +kernel

theorem witness_DirectionAndListings : base.sup.phase = .running ∧ (∀ sl, base.raster.place ≠ .queued sl) ∧
    ({ base with pins := { base.pins with dir := true } } : State).pins.dir = true ∧
    base.raster.direction = .inbound ∧ base.raster.decoder = .header ∧ base.raster.fifo = [] ∧ base.raster.loneHalf = none ∧
    (stream .header [1] base).raster.fifo ≠ [] ∧
    (listingRuns.raster.decoder = .listing ∧ listingRuns.raster.direction = .outbound ∧ listingRuns.pins.flush = false ∧
      listingRuns.raster.fifo ≠ [] ∧ listingRuns.raster.buffer ≠ none ∧ listingRuns.raster.lowSent = false) ∧
    (listingDue.raster.place = .queued 0 ∧ listingDue.raster.direction = .outbound ∧ listingDue.raster.decoder = .header) :=
  ⟨rfl, nofun, rfl, rfl, rfl, rfl, rfl, nofun, by decide +kernel, rfl, rfl, rfl⟩

/-- A queue whose head is bound to index part 0 or to the title of slot 0. -/
def queued (bd : Binding) (st : MasterState) : State :=
  let s := bound .loaded bd (plated st)
  { s with panel := { s.panel with queue := [.a] } }

theorem witness_JobsAreTaken : (atPath .halted base).seq.path ≠ .idle ∧ queuedPage.sup.phase = .running ∧ queuedPage.seq.path = .idle ∧
    queuedPage.dose.calibration = .none ∧ queuedPage.panel.queue = .a :: [] ∧ (queuedPage.master 2).fields ≠ none ∧
    (queuedPage.bank .a).binding = some (.record 0x48C5) ∧ (queuedPage.resolve 0x48C5).map (fun r => (r.slot, r.cell, r.cls)) = some (2, 137, 5) ∧
    queuedPage.motion.port = .idle ∧ ((queued (.index 0 0) .indexing).bank .a).binding = some (.index 0 0) ∧
    ((queued (.title 0) .indexed).bank .a).binding = some (.title 0) ∧ ((queued (.title 0) .indexed).master 0).fields = some g3 := by
  decide +kernel

/-- Where the clamp begins: products that round to 15 and to 16. -/
theorem witness_DoseTargetsOfJobs : (126975 + 4096) / 8192 < 16 ∧ 16 ≤ (126976 + 4096) / 8192 ∧ queuedPage.seq.path = .idle ∧
    queuedPage.panel.queue = .a :: [] ∧ ((queued (.index 0 0) .indexing).bank .a).binding = some (.index 0 0) ∧
    ((queued (.title 0) .indexed).bank .a).binding = some (.title 0) := by decide +kernel

theorem witness_ExposureFigures : 0 < 6150 ∧ 14766 * 100 ≤ 241 * 6150 ∧ (∀ q, 14766 * 100 ≤ q * 6150 → 241 ≤ q) ∧ 63 < 64 :=
  ⟨by decide, by decide, fun q h => by omega, by decide⟩

theorem witness_PositionsAndMessages : 127 < Format.g1.cellCount ∧ 239 < Format.g2.cellCount ∧ 71 < Format.g3.cellCount := by decide

theorem witness_PanelReadinessOpensTheShutter :
    ({ base with panel := { base.panel with strobing := true } } : State).panel.strobing = true ∧ base.panel.awaiting = false ∧
    base.seq.path ≠ .preparing ∧ (preparingPage false false).seq.path = .preparing ∧
    (preparingPage true true).seq.job = some (job (.document 0 0) true true) ∧
    (preparingPage true true).jobPlateGone (job (.document 0 0) true true) = false ∧ (preparingPage true true).dose.gateRuns = false ∧
    (gating true (preparingPage true true)).dose.gateRuns = true ∧
    ({ preparingPage true false with panel := { (preparingPage true false).panel with awaiting := true } } : State).panel.awaiting = true := by
  decide +kernel

/-- The motion port in a state. -/
def moving (p : PortState) (next : Option Target) : State :=
  { base with motion := { base.motion with port := p, moveTimer := true, pendingMove := next, target := some { x := 400, y := 3000, turret := .three } } }

theorem witness_TheMotionPortFollowsTheMove : (moving .sending none).motion.port = .sending ∧ base.motion.port = .idle ∧
    base.motion.moveTimer = false ∧ (moving .draining none).motion.pendingMove = none ∧
    (moving .draining (some { x := 1, y := 2, turret := .one })).motion.pendingMove = some { x := 1, y := 2, turret := .one } ∧
    ((preparingPage false true).motion.port = .moving ∧ (preparingPage false true).seq.path = .preparing ∧
      (preparingPage false true).seq.job = some (job (.document 0 0) false true) ∧
      (preparingPage false true).jobPlateGone (job (.document 0 0) false true) = false) ∧
    ((preparingPage false false).motion.port = .moving ∧ (preparingPage false false).motion.pendingMove = none ∧
      (preparingPage false false).seq.panelTimer = true) := by decide +kernel

theorem witness_PreparationsAreEnded : base.pins.flush = false ∧ base.seq.path = .idle ∧ (atPath .faulted base).seq.path = .faulted ∧
    base.seq.panelTimer = false ∧ (preparingPage false false).seq.path = .preparing ∧
    (preparingPage false false).seq.job = some (job (.document 0 0) false false) ∧
    (preparingPage false false).jobPlateGone (job (.document 0 0) false false) = false ∧ (preparingPage false false).streamFits ∧
    (preparingPage false false).motion.port = .moving ∧ (preparingPage false false).motion.moveTimer = true ∧
    (preparingPage false false).seq.panelTimer = true ∧ (preparingPage false false).pins.flush = false :=
  ⟨rfl, rfl, rfl, rfl, rfl, rfl, by decide +kernel, fits_of_header rfl rfl, rfl, rfl, rfl, rfl⟩

/-- The last pulse but one, and the last. -/
theorem witness_PulsesAreCountedToTheTarget : base.dose.counter = .idle ∧ (gating true base).dose.counter = .gating ∧
    (exposingPage 126).dose.counter = .integrating ∧ (exposingPage 126).seq.path = .exposing ∧
    (exposingPage 126).seq.job = some (job (.document 0 0) true true) ∧ 126 + 1 < (job (.document 0 0) true true).target ∧
    (job (.document 0 0) true true).target ≤ 127 + 1 ∧ (exposingPage 127).jobPlateGone (job (.document 0 0) true true) = false ∧
    (exposingPage 127).streamFits :=
  ⟨rfl, rfl, rfl, rfl, rfl, by decide, by decide, by decide +kernel, fits_of_header rfl rfl⟩

/-- At the fog limit of 2 and below it; no pulse in the lamp-dark window. -/
theorem witness_ShortExposuresAreJudged : (exposingPage 2).seq.path = .exposing ∧
    (exposingPage 2).seq.job = some (job (.document 0 0) true true) ∧ (exposingPage 2).jobPlateGone (job (.document 0 0) true true) = false ∧
    (exposingPage 2).streamFits ∧ (exposingPage 2).dose.limitTimer = true ∧ (exposingPage 2).pins.flush = false ∧
    ((job (.document 0 0) true true).fogLimit ≤ (exposingPage 2).dose.count ∧ 1 ≤ (exposingPage 2).dose.count) ∧
    (exposingPage 1).dose.count < (job (.document 0 0) true true).fogLimit ∧ ((exposingIndex 2).master 0).state.live = true ∧
    ((exposingPage 0).dose.darkWindow = .running ∧ (exposingPage 0).dose.count = 0) ∧ (exposingPage 2).dose.darkWindow ≠ .running ∧
    base.dose.limitTimer = false :=
  ⟨rfl, rfl, by decide +kernel, fits_of_header rfl rfl, rfl, rfl, by decide, by decide, by decide +kernel, ⟨rfl, rfl⟩, nofun, rfl⟩

theorem witness_GatesAndLampPeriodsEnd : (∀ f, base.dose.calibration ≠ .running f) ∧ (gating true base).dose.calibration = .running true ∧
    (gating true base).seq.path ≠ .preparing ∧
    (gating true (preparingPage true true)).seq.path = .preparing ∧
    (gating true (preparingPage true true)).seq.job = some (job (.document 0 0) true true) ∧
    (gating true (preparingPage true true)).jobPlateGone (job (.document 0 0) true true) = false :=
  ⟨nofun, rfl, nofun, rfl, rfl, by decide +kernel⟩

/-- 31 and 32 free entries. -/
theorem witness_FlagsFollowTheState : base.sup.phase = .running ∧
    ({ base with dir := { base.dir with freeList := List.replicate 31 0 } } : State).dlo = true ∧
    ({ base with dir := { base.dir with freeList := List.replicate 32 0 } } : State).dlo = false := by decide +kernel

theorem witness_LatchedFlagsStayUntilCleared : exec .gateEnd base = .next (after .gateEnd base) ∧ base.sup.phase = .running ∧
    (after .gateEnd base).sup.phase = .running ∧ ∀ p, base.answer = some p → p.clearing = false :=
  ⟨rfl, rfl, rfl, nofun⟩

/-- The part after reset with a command that waits: what every step keeps holds of it, and its step goes on. -/
def waiting : State := { State.reset with pending := [.closeGap] }

theorem waiting_steps : step waiting = .next (after .closeGap State.reset) := rfl

theorem witness_StepKeepsTheDirectory : waiting.dir.consistent ∧ step waiting = .next (after .closeGap State.reset) := by
  refine ⟨?_, waiting_steps⟩
  have h : waiting.dir = { stamps := Vector.replicate 1024 0, freeList := List.finRange 1024, keyTable := [] } := rfl
  rw [h]
  simp [Directory.consistent, Directory.occupied, List.nodup_finRange]

theorem witness_StepKeepsTheMasters : waiting.mastersConsistent ∧ step waiting = .next (after .closeGap State.reset) := by
  refine ⟨⟨List.nodup_nil, fun sl => ?_⟩, waiting_steps⟩
  have h : waiting.master sl = Master.reset false := by simp [State.master, waiting, State.reset]
  have hp : waiting.platePresent sl = false := by simp [State.platePresent, waiting, State.reset, PlateFilter.reset]
  refine ⟨?_, ?_, ?_, ?_, ?_, ?_⟩ <;> simp [h, hp, Master.reset, MasterState.hasFields, MasterState.fitsPlate]
  simp [waiting, State.reset]

theorem witness_StepKeepsTheBanks : waiting.memoryConsistent ∧ waiting.panelConsistent ∧
    step waiting = .next (after .closeGap State.reset) := by
  refine ⟨by simp [State.memoryConsistent, waiting, State.reset, Bank.blank, Memory.wf], ⟨List.nodup_nil, ?_, ?_, ?_⟩, waiting_steps⟩ <;>
    simp [State.bankConsistent, waiting, State.reset, State.bank, PanelStore.bank, Bank.blank, Sequencer.reset, RasterPort.reset,
      Decoder.fillBank]

theorem witness_StepKeepsThePort : waiting.portConsistent ∧ step waiting = .next (after .closeGap State.reset) :=
  ⟨by simp [State.portConsistent, waiting, State.reset, RasterPort.reset, RasterPort.decoderFits, RasterPort.listingFits], waiting_steps⟩

theorem witness_StepKeepsThePath : waiting.pathConsistent ∧ waiting.motionConsistent ∧
    step waiting = .next (after .closeGap State.reset) := by
  refine ⟨?_, ?_, waiting_steps⟩
  · simp [State.pathConsistent, State.jobFits, State.awaitsPanel, waiting, State.reset, Sequencer.reset, DoseUnit.reset, DoseUnit.gateRuns]
  · simp [State.motionConsistent, MotionPort.consistent, MotionPort.serves, State.awaitsMove, waiting, State.reset, Sequencer.reset,
      MotionPort.reset]

theorem witness_StepKeepsTheLink : waiting.linkConsistent ∧ step waiting = .next (after .closeGap State.reset) :=
  ⟨by simp [State.linkConsistent, waiting, State.reset, LinkInterface.reset], waiting_steps⟩

theorem witness_StepKeepsTheFilm : waiting.filmConsistent ∧ step waiting = .next (after .closeGap State.reset) := by
  have h : ∀ sl, waiting.master sl = Master.reset false := fun sl => by simp [State.master, waiting, State.reset]
  have hk : waiting.dir.keyTable = [] := rfl
  refine ⟨⟨witness_StepKeepsTheDirectory.1, witness_StepKeepsTheMasters.1, witness_StepKeepsTheBanks.2.1, witness_StepKeepsThePort.1,
    witness_StepKeepsThePath.1, ?_⟩, waiting_steps⟩
  refine ⟨?_, ?_, ?_, ?_, ?_, ?_, ?_, ?_, ?_, ?_, ?_⟩
  all_goals first
    | (simp [hk]; done)
    | (intro sl; simp [State.mapFits, State.indexFits, h sl, Master.reset])
    | (simp [State.bindingFits, State.jobMatches, waiting, State.reset, State.bank, PanelStore.bank, Bank.blank, Sequencer.reset])

end Sys2Proof.Tests
end

/-! The settle expiry of a plate that has left its slot, taken apart as the model composes it: the debounce filter (R1) turns the settled level
into a plate removed event, and the event acts by the state of the slot's master (R5). -/

namespace Sys2Proof.Machine

/-- A plate filter is no part of the Master Table. -/
@[simp] theorem State.setPlate_master (s : State) (sl o : Slot) (p : PlateFilter) : (s.setPlate sl p).master o = s.master o := rfl

theorem exec_plateSettleExpiry_of_running (sl : Slot) (s : State) (h : s.sup.phase = .running) :
    exec (.plateSettleExpiry sl) s = .next (s.settlePlate sl) :=
  congrArg Host.Outcome.next (s.whileRunning_of_running (fun s => s.settlePlate sl) h)

/-- R1: a low level that settles on a slot whose debounced state is present gives a plate removed event. -/
theorem State.settlePlate_of_withdrawn (s : State) (sl : Slot)
    (h : s.plates[sl] = { raw := false, debounced := true, settling := true }) :
    s.settlePlate sl = (s.setPlate sl { raw := false, debounced := false, settling := false }).plateRemoved sl := by
  simp [State.settlePlate, h]

/-- R5: the masters without records, banks or master fields only become EMPTY. -/
theorem State.plateRemoved_of_loaded_or_spent (s : State) (sl : Slot)
    (h : (s.master sl).state = .loaded ∨ (s.master sl).state = .spent) :
    s.plateRemoved sl = s.setMaster sl { s.master sl with state := .empty } := by
  rcases h with hloaded | hspent
  · simp [State.plateRemoved, State.mapMaster, hloaded]
  · simp [State.plateRemoved, State.mapMaster, hspent]

/-- Settles O7: the filter's removed event reaches a master that the new filter has left as it was, still LOADED or SPENT. -/
theorem plateRemovedEmptiesSlot : Obligations.PlateRemovedEmptiesSlot := by
  intro sl s hrun hplate hstate
  rw [exec_plateSettleExpiry_of_running sl s hrun, s.settlePlate_of_withdrawn sl hplate,
    State.plateRemoved_of_loaded_or_spent _ sl (by simpa using hstate), State.setPlate_master]

end Sys2Proof.Machine

/-! The dose unit's figures and tables: the target of a job with its clamp (R131) as a job take uses it (R108), and SET_DOSE (R144) with the
dispatch of every request that only a direct target reaches (R185 to R188). -/

namespace Sys2Proof.Machine

/-! ## The target and its clamp (R131) -/

/-- The largest table entries give the largest target. -/
theorem rawTarget_le {B F G : Nat} (hB : B ≤ 65535) (hF : F ≤ 255) (hG : G ≤ 255) : rawTarget B F G ≤ 520192 := by
  have hprod : B * F * G ≤ 65535 * 255 * 255 := Nat.mul_le_mul (Nat.mul_le_mul hB hF) hG
  unfold rawTarget
  omega

theorem doseTarget_of_le {B F G : Nat} (h : 16 ≤ rawTarget B F G) :
    doseTarget B F G = rawTarget B F G ∧ doseClamped B F G = false :=
  ⟨Nat.max_eq_right h, decide_eq_false (Nat.not_lt.mpr h)⟩

theorem doseTarget_of_lt {B F G : Nat} (h : rawTarget B F G < 16) : doseTarget B F G = 16 ∧ doseClamped B F G = true :=
  ⟨Nat.max_eq_left h.le, decide_eq_true h⟩

theorem doseTarget_ge (B F G : Nat) : 16 ≤ doseTarget B F G := Nat.le_max_left ..

theorem doseTarget_le {B F G : Nat} (hB : B ≤ 65535) (hF : F ≤ 255) (hG : G ≤ 255) : doseTarget B F G ≤ 520192 :=
  Nat.max_le.mpr ⟨by decide, rawTarget_le hB hF hG⟩

/-! ## The job take and its figures (R107, R108) -/

theorem exec_jobTake_of_running (s : State) (h : s.sup.phase = .running) : exec .jobTake s = .next s.takeJob :=
  congrArg Host.Outcome.next (s.whileRunning_of_running State.takeJob h)

/-- R107: the job at the queue's head is taken where its binding gives one and its master has its fields. -/
theorem State.takeJob_of_head (s : State) {id : BankId} {rest : List BankId} {kind : JobKind} {sl : Slot} {factor : Nat} {f : MasterFields}
    (hpath : s.seq.path = .idle) (hcal : s.dose.calibration = .none) (hqueue : s.panel.queue = id :: rest)
    (hjob : (s.bank id).binding.bind s.jobOf = some (kind, sl, factor)) (hfields : (s.master sl).fields = some f) :
    s.takeJob = s.takeJobOf id rest kind sl factor f.format := by
  simp [State.takeJob, hpath, hcal, hqueue, hjob, hfields]

@[simp] theorem State.takeJobOf_job (s : State) (id : BankId) (rest : List BankId) (kind : JobKind) (sl : Slot) (factor : Nat) (f : Format) :
    (s.takeJobOf id rest kind sl factor f).seq.job = some (s.newJob id kind sl factor f) := rfl

/-- Of all a take does, only the change of the record reaches the directory. -/
@[simp] theorem State.takeJobOf_dir (s : State) (id : BankId) (rest : List BankId) (kind : JobKind) (sl : Slot) (factor : Nat) (f : Format) :
    (s.takeJobOf id rest kind sl factor f).dir =
      (s.takeRecord kind (doseClamped (s.dose.baseOf f) factor (s.dose.trimOf sl))).dir := rfl

/-- A document binding gives its record's slot and class factor (R105, R132). -/
theorem State.jobOf_record (s : State) {h : Handle} {r : Record} (hr : s.resolve h = some r) :
    s.jobOf (.record h) = some (.document h r.cell, r.slot, s.dose.factorOf r.cls) := by
  simp [State.jobOf, hr]

/-- A record binding gives no other job than one of its own handle. -/
theorem State.kind_of_jobOf_record (s : State) {h : Handle} {kind : JobKind} {sl : Slot} {factor : Nat}
    (hjob : s.jobOf (.record h) = some (kind, sl, factor)) : ∃ cell, kind = .document h cell := by
  obtain ⟨r, _, heq⟩ := Option.map_eq_some_iff.mp hjob
  exact ⟨r.cell, (congrArg Prod.fst heq).symm⟩

/-- A record that stands at the entry of a change in place is a changed one. -/
theorem State.exists_of_mem_mapRecord (s : State) {e : Entry} {f : Record → Record} {x : Record} (hx : x ∈ (s.mapRecord e f).dir.keyTable)
    (he : x.entry = e) : ∃ y ∈ s.dir.keyTable, f y = x := by
  obtain ⟨y, hy, rfl⟩ := List.mem_map.mp hx
  by_cases hye : y.entry = e
  · exact ⟨y, hy, (if_pos hye).symm⟩
  · rw [if_neg hye] at he
    exact absurd he hye

/-- R108: at a document job's take the record carries the clamped flag of the take. -/
theorem State.clamped_of_takeRecord (s : State) {h : Handle} {r : Record} (cell : Nat) (c : Bool) (hr : s.resolve h = some r) {x : Record}
    (hx : x ∈ (s.takeRecord (.document h cell) c).dir.keyTable) (he : x.entry = r.entry) : x.clamped = some c := by
  simp only [State.takeRecord, hr] at hx
  obtain ⟨y, _, rfl⟩ := s.exists_of_mem_mapRecord hx he
  rfl

/-- Settles O42: the figures are arithmetic on the raw target; every binding gives a job, whose take computes the target of the new job and the
clamped flag of its record from the same three numbers. -/
theorem doseTargetsOfJobs : Obligations.DoseTargetsOfJobs := by
  refine ⟨fun B F G hB hF hG => ⟨doseTarget_ge B F G, doseTarget_le hB hF hG, doseTarget_of_le, doseTarget_of_lt⟩, rfl, ?_⟩
  intro s id rest sl factor f hrun hpath hcal hqueue hfields hbinding
  obtain ⟨kind, hjob⟩ : ∃ kind, (s.bank id).binding.bind s.jobOf = some (kind, sl, factor) := by
    rcases hbinding with ⟨h, r, hb, hr, rfl, rfl⟩ | ⟨⟨part, hb⟩, rfl⟩ | ⟨hb, rfl⟩
    · exact ⟨.document h r.cell, by rw [hb, Option.bind_some, s.jobOf_record hr]; rfl⟩
    · exact ⟨.index part, by rw [hb]; rfl⟩
    · exact ⟨.title, by rw [hb]; rfl⟩
  refine ⟨s.takeJobOf id rest kind sl factor f.format, s.newJob id kind sl factor f.format, ?_, rfl, rfl, rfl, ?_⟩
  · rw [exec_jobTake_of_running s hrun, s.takeJob_of_head hpath hcal hqueue hjob hfields]
  · intro h r hb hr x hx he
    rw [hb, Option.bind_some] at hjob
    obtain ⟨cell, rfl⟩ := s.kind_of_jobOf_record hjob
    exact s.clamped_of_takeRecord cell _ hr hx he

/-! ## Requests that only a direct target reaches (R185 to R188) -/

theorem Answer.deliver_silent (s : State) (dst : Addressing) (code : Byte) : (Answer.silent s).deliver dst code = s.unanswered := rfl

theorem Answer.deliver_ack_direct (s : State) (r : Result) (code : Byte) : (Answer.ack s r).deliver .direct code = s.ackTail code r := rfl

theorem dispatch_group (authorised exempt : Bool) (own : State → Answer) (s : State) :
    dispatch .group authorised exempt own s = .silent s := rfl

theorem dispatch_unauthorised (exempt : Bool) (own : State → Answer) (s : State) : dispatch .direct false exempt own s = .ack s .denied := rfl

theorem dispatch_busy (own : State → Answer) (s : State) (h : s.releaseQueue ≠ []) : dispatch .direct true false own s = .ack s .busy := by
  simp [dispatch, State.busy, h]

theorem dispatch_own (exempt : Bool) (own : State → Answer) (s : State) (h : s.releaseQueue = []) :
    dispatch .direct true exempt own s = own s := by
  simp [dispatch, State.busy, h]

/-! ## SET_DOSE (R144) -/

/-- The format bytes 1, 2 and 3 name the entries of the base table in its order (R9, R129). -/
theorem formatOf?_of_toNat {b : Byte} {n : Fin 3} (h : b.toNat = n.val + 1) : ∃ f, formatOf? b = some f ∧ f.baseIndex = n := by
  obtain rfl : b = BitVec.ofNat 8 (n.val + 1) := BitVec.eq_of_toNat_eq (by rw [h, BitVec.toNat_ofNat]; omega)
  fin_cases n
  · exact ⟨.g1, rfl, rfl⟩
  · exact ⟨.g2, rfl, rfl⟩
  · exact ⟨.g3, rfl, rfl⟩

/-- No other byte names a format. -/
theorem formatOf?_eq_none {b : Byte} (h : b = 0 ∨ 3 < b.toNat) : formatOf? b = none := by
  have h1 : b ≠ 1 := by rintro rfl; revert h; decide
  have h2 : b ≠ 2 := by rintro rfl; revert h; decide
  have h3 : b ≠ 3 := by rintro rfl; revert h; decide
  rw [formatOf?, if_neg h1, if_neg h2, if_neg h3]

/-- The format is the only check of the base table besides the value 0. -/
theorem ownSetDose_base {index : Byte} {value : Half} {n : Fin 3} (s : State) (hindex : index.toNat = n.val + 1) (hvalue : value ≠ 0) :
    ownSetDose 0 index value s = .ack { s with dose := { s.dose with base := s.dose.base.set n value } } .ok := by
  obtain ⟨f, hf, rfl⟩ := formatOf?_of_toNat hindex
  rw [ownSetDose, if_pos rfl, hf]
  exact if_neg hvalue

theorem ownSetDose_class {index : Byte} {value : Half} {c : DoseClass} (s : State) (hindex : index.toNat = c.val) (hvalue : value ≠ 0)
    (hbyte : value.toNat ≤ 255) :
    ownSetDose 1 index value s = .ack { s with dose := { s.dose with classes := s.dose.classes.set c (value.setWidth 8) } } .ok := by
  obtain ⟨c, hc⟩ := c
  obtain rfl : index.toNat = c := hindex
  rw [ownSetDose, if_neg (by decide), if_pos rfl, dif_pos hc, if_neg (not_or.mpr ⟨hvalue, Nat.not_lt.mpr hbyte⟩)]

/-- R144: an unknown table, an index outside its table and a value outside its range are BAD_PARAM. -/
theorem ownSetDose_of_bad {table index : Byte} {value : Half} (s : State)
    (h : 1 < table.toNat ∨ (table = 0 ∧ (index = 0 ∨ 3 < index.toNat)) ∨ (table = 1 ∧ 7 < index.toNat) ∨ value = 0 ∨
      (table = 1 ∧ 255 < value.toNat)) :
    ownSetDose table index value s = .ack s .badParam := by
  rcases h with htable | ⟨rfl, hindex⟩ | ⟨rfl, hindex⟩ | rfl | ⟨rfl, hvalue⟩
  · have h0 : table ≠ 0 := by rintro rfl; revert htable; decide
    have h1 : table ≠ 1 := by rintro rfl; revert htable; decide
    rw [ownSetDose, if_neg h0, if_neg h1]
  · simp [ownSetDose, formatOf?_eq_none hindex]
  · simp [ownSetDose, Nat.not_lt.mpr (Nat.succ_le_of_lt hindex)]
  · unfold ownSetDose
    cases formatOf? index <;> simp
  · simp [ownSetDose, hvalue]

/-- A SET_DOSE at the end of its turn gap is dispatched with its own checks, and the answer delivered. -/
theorem exec_setDose_of_takesRequest (dst : Addressing) (src : Node) (table index : Byte) (value : Half) {s : State} (h : s.takesRequest) :
    exec (.setDose dst src table index value) s =
      .next ((dispatch dst (fromSupervisor src) false (ownSetDose table index value) s).deliver dst 0x13) :=
  congrArg Host.Outcome.next (s.request_of_request dst 0x13 (unitSetDose dst src table index value) h.1 h.2)

/-- From the supervisor to a writer that is not busy, SET_DOSE comes to its own checks. -/
theorem exec_setDose_own {table index : Byte} {value : Half} {s t : State} {r : Result} (h : s.takesRequest) (hfree : s.releaseQueue = [])
    (hown : ownSetDose table index value s = .ack t r) :
    exec (.setDose .direct 0 table index value) s = .next (t.ackTail 0x13 r) := by
  have hdispatch : dispatch .direct (fromSupervisor 0) false (ownSetDose table index value) s = .ack t r :=
    (dispatch_own false _ s hfree).trans hown
  rw [exec_setDose_of_takesRequest .direct 0 table index value h, hdispatch, Answer.deliver_ack_direct]

/-- Settles O26: a clause for each outcome of the dispatch, and in the last one each outcome of SET_DOSE's own checks. -/
theorem setDoseWritesOneEntry : Obligations.SetDoseWritesOneEntry := by
  intro dst src table index value s h
  refine ⟨?group, ?denied, ?busy, ?own⟩
  case group =>
    rintro rfl
    rw [exec_setDose_of_takesRequest _ _ _ _ _ h, dispatch_group, Answer.deliver_silent]
  case denied =>
    rintro rfl hsrc
    have hauth : fromSupervisor src = false := decide_eq_false hsrc
    rw [exec_setDose_of_takesRequest _ _ _ _ _ h, hauth, dispatch_unauthorised, Answer.deliver_ack_direct]
  case busy =>
    rintro rfl rfl hbusy
    have hauth : fromSupervisor 0 = true := rfl
    rw [exec_setDose_of_takesRequest _ _ _ _ _ h, hauth, dispatch_busy _ s hbusy, Answer.deliver_ack_direct]
  case own =>
    rintro rfl rfl hfree
    refine ⟨fun hbad => exec_setDose_own h hfree (ownSetDose_of_bad s hbad), ?_, ?_⟩
    · rintro n rfl hindex hvalue
      exact exec_setDose_own h hfree (ownSetDose_base s hindex hvalue)
    · rintro c rfl hindex hvalue hbyte
      exact exec_setDose_own h hfree (ownSetDose_class s hindex hvalue hbyte)

end Sys2Proof.Machine

/-! What a command can do, said once. Every command acts by a run of named effects: works of the film side (`State.Works`) and changes of the
link interface (`State.Links`), each with the condition under which it is taken; then a tail may be delivered, or a hard reset begin or end
(`State.Comes`). `exec_comes` says so for all commands, and a predicate that these keep is kept by every command and every step
(`exec_preserves`, `step_preserves`). -/

namespace Sys2Proof.Machine

/-! ## What the changes of the directory alone keep -/

@[simp] theorem State.endRelease_keeps (s : State) (sl : Slot) (rest : List Slot) :
    (s.endRelease sl rest).pending = s.pending ∧ (s.endRelease sl rest).pins = s.pins ∧ (s.endRelease sl rest).sup = s.sup ∧
    (s.endRelease sl rest).plates = s.plates ∧ (s.endRelease sl rest).removalReports = s.removalReports ∧
    (s.endRelease sl rest).dir = s.dir ∧ (s.endRelease sl rest).raster = s.raster ∧ (s.endRelease sl rest).panel = s.panel ∧
    (s.endRelease sl rest).seq = s.seq ∧ (s.endRelease sl rest).motion = s.motion ∧ (s.endRelease sl rest).dose = s.dose ∧
    (s.endRelease sl rest).link = s.link ∧ (s.endRelease sl rest).answer = s.answer := by
  simp [State.endRelease]

@[simp] theorem State.deleteNext_keeps (s : State) :
    s.deleteNext.pending = s.pending ∧ s.deleteNext.pins = s.pins ∧ s.deleteNext.sup = s.sup ∧ s.deleteNext.plates = s.plates ∧
    s.deleteNext.removalReports = s.removalReports ∧ s.deleteNext.raster = s.raster ∧ s.deleteNext.panel = s.panel ∧
    s.deleteNext.seq = s.seq ∧ s.deleteNext.motion = s.motion ∧ s.deleteNext.dose = s.dose ∧ s.deleteNext.link = s.link ∧
    s.deleteNext.answer = s.answer := by
  unfold State.deleteNext
  split
  · simp
  · split
    · simp
    · split <;> simp

@[simp] theorem State.endDeletion_keeps (s : State) :
    s.endDeletion.pending = s.pending ∧ s.endDeletion.pins = s.pins ∧ s.endDeletion.sup = s.sup ∧ s.endDeletion.plates = s.plates ∧
    s.endDeletion.removalReports = s.removalReports ∧ s.endDeletion.raster = s.raster ∧ s.endDeletion.panel = s.panel ∧
    s.endDeletion.seq = s.seq ∧ s.endDeletion.motion = s.motion ∧ s.endDeletion.dose = s.dose ∧ s.endDeletion.link = s.link ∧
    s.endDeletion.answer = s.answer := by
  unfold State.endDeletion
  split
  · simp
  · split
    · simp
    · split <;> simp

@[simp] theorem State.placeRecord_keeps (s : State) (r : Record) (rest : List Entry) :
    (s.placeRecord r rest).pending = s.pending ∧ (s.placeRecord r rest).pins = s.pins ∧ (s.placeRecord r rest).sup = s.sup ∧
    (s.placeRecord r rest).plates = s.plates ∧ (s.placeRecord r rest).releaseQueue = s.releaseQueue ∧
    (s.placeRecord r rest).removalReports = s.removalReports ∧ (s.placeRecord r rest).raster = s.raster ∧
    (s.placeRecord r rest).panel = s.panel ∧ (s.placeRecord r rest).seq = s.seq ∧ (s.placeRecord r rest).motion = s.motion ∧
    (s.placeRecord r rest).dose = s.dose ∧ (s.placeRecord r rest).link = s.link ∧ (s.placeRecord r rest).answer = s.answer := by
  simp [State.placeRecord]

@[simp] theorem State.rekeyWithin_keeps (s : State) (r : Record) (k : Key) :
    (s.rekeyWithin r k).pending = s.pending ∧ (s.rekeyWithin r k).pins = s.pins ∧ (s.rekeyWithin r k).sup = s.sup ∧
    (s.rekeyWithin r k).plates = s.plates ∧ (s.rekeyWithin r k).releaseQueue = s.releaseQueue ∧
    (s.rekeyWithin r k).removalReports = s.removalReports ∧ (s.rekeyWithin r k).raster = s.raster ∧ (s.rekeyWithin r k).panel = s.panel ∧
    (s.rekeyWithin r k).seq = s.seq ∧ (s.rekeyWithin r k).motion = s.motion ∧ (s.rekeyWithin r k).dose = s.dose ∧
    (s.rekeyWithin r k).link = s.link ∧ (s.rekeyWithin r k).answer = s.answer := by
  unfold State.rekeyWithin
  split <;> simp [State.refile]

@[simp] theorem State.rekeyMove_keeps (s : State) (r : Record) (k : Key) (sl : Slot) (cell : Nat) :
    (s.rekeyMove r k sl cell).pending = s.pending ∧ (s.rekeyMove r k sl cell).pins = s.pins ∧ (s.rekeyMove r k sl cell).sup = s.sup ∧
    (s.rekeyMove r k sl cell).plates = s.plates ∧ (s.rekeyMove r k sl cell).releaseQueue = s.releaseQueue ∧
    (s.rekeyMove r k sl cell).removalReports = s.removalReports ∧ (s.rekeyMove r k sl cell).raster = s.raster ∧
    (s.rekeyMove r k sl cell).panel = s.panel ∧ (s.rekeyMove r k sl cell).seq = s.seq ∧ (s.rekeyMove r k sl cell).motion = s.motion ∧
    (s.rekeyMove r k sl cell).dose = s.dose ∧ (s.rekeyMove r k sl cell).link = s.link ∧ (s.rekeyMove r k sl cell).answer = s.answer := by
  simp [State.rekeyMove, State.refile]

@[simp] theorem State.replaceRecord_keeps (s : State) (r : Record) (cell : Nat) :
    (s.replaceRecord r cell).pending = s.pending ∧ (s.replaceRecord r cell).pins = s.pins ∧ (s.replaceRecord r cell).sup = s.sup ∧
    (s.replaceRecord r cell).plates = s.plates ∧ (s.replaceRecord r cell).releaseQueue = s.releaseQueue ∧
    (s.replaceRecord r cell).removalReports = s.removalReports ∧ (s.replaceRecord r cell).raster = s.raster ∧
    (s.replaceRecord r cell).panel = s.panel ∧ (s.replaceRecord r cell).seq = s.seq ∧ (s.replaceRecord r cell).motion = s.motion ∧
    (s.replaceRecord r cell).dose = s.dose ∧ (s.replaceRecord r cell).link = s.link ∧ (s.replaceRecord r cell).answer = s.answer := by
  simp [State.replaceRecord]

@[simp] theorem State.settlePlate_keeps (s : State) (sl : Slot) :
    (s.settlePlate sl).pending = s.pending ∧ (s.settlePlate sl).pins = s.pins ∧ (s.settlePlate sl).seq = s.seq ∧
    (s.settlePlate sl).motion = s.motion ∧ (s.settlePlate sl).dose = s.dose ∧ (s.settlePlate sl).link = s.link ∧
    (s.settlePlate sl).answer = s.answer := by
  unfold State.settlePlate
  dsimp only
  split
  · simp
  · split
    · simp
    · split
      · unfold State.plateInserted; split <;> simp
      · unfold State.plateRemoved; split <;> simp

/-! ## The effects -/

/-- One effect on the film side, with what is known of the state in which it is taken. What follows in the same event (a job take, a direction
change) is an effect of its own. -/
inductive State.Works (s : State) : State → Prop
  | tellPins (p : Pins) : s.Works { s with pins := p }
  | tellPlate (sl : Slot) (raw settling : Bool) : s.Works (s.setPlate sl { s.plates[sl] with raw := raw, settling := settling })
  | settlePlate (sl : Slot) : s.Works (s.settlePlate sl)
  | dropReport (rest : List Slot) : s.Works { s with removalReports := rest }
  | deleteNext : s.Works s.deleteNext
  | endDeletion : s.Works s.endDeletion
  | openMaster (sl : Slot) (f : Format) (label : Half) (low high : Account) (hst : (s.master sl).state = .loaded)
      (hrange : low.toNat ≤ high.toNat) (hfree : s.overlapsOpen sl low high = false) : s.Works (s.setMaster sl (openedMaster f label low high))
  | closeMaster (sl : Slot) (hst : (s.master sl).state = .opened) :
      s.Works ((s.mapMaster sl (fun m => { m with state := .closing })).settleTest sl)
  | release (sl : Slot) (hst : (s.master sl).state.releasable = true) (ha : s.bankInUse sl .a = false) (hb : s.bankInUse sl .b = false) :
      s.Works (s.enterReleasing sl).streamGo
  | place (k : Key) (c : DoseClass) (sl : Slot) (cell : Nat) (e : Entry) (rest : List Entry) (src : Node)
      (hcover : s.openCovering k.account = some sl) (hcell : s.lowestFree sl = some cell) (hentry : s.dir.freeList = e :: rest) :
      s.Works (s.placeRecord (placedRecord e k c sl cell src) rest)
  | rekeyWithin (h : Handle) (r : Record) (k : Key) (hr : s.resolve h = some r) (hcover : s.slotCovers r.slot k.account = true) :
      s.Works (s.rekeyWithin r k)
  | rekeyMove (h : Handle) (r : Record) (k : Key) (sl : Slot) (cell : Nat) (hr : s.resolve h = some r)
      (hst : (s.master r.slot).state ≠ .failed) (hrec : r.state.changeable = true) (hown : s.slotCovers r.slot k.account = false)
      (hcover : s.openCovering k.account = some sl) (hcell : s.lowestFree sl = some cell) : s.Works (s.rekeyMove r k sl cell)
  | setClass (h : Handle) (r : Record) (c : DoseClass) (hr : s.resolve h = some r) :
      s.Works (s.mapRecord r.entry (fun r => { r with cls := c }))
  | retire (h : Handle) (r : Record) (hr : s.resolve h = some r) : s.Works (s.retireRecord r).streamGo
  | replace (h : Handle) (r : Record) (cell : Nat) (hr : s.resolve h = some r) (hrec : r.state = .spoiled)
      (hst : (s.master r.slot).state = .opened ∨ (s.master r.slot).state = .closing) (hcell : s.lowestFree r.slot = some cell) :
      s.Works (s.replaceRecord r cell)
  | queueListing (sl : Slot) (hplace : s.raster.place = .empty) : s.Works { s with raster := { s.raster with place := .queued sl } }
  | haltPath : s.Works s.haltPath
  | resume (hpath : s.seq.path = .halted ∨ s.seq.path = .faulted) : s.Works { s with seq := { s.seq with path := .idle, fault := .none } }
  | awaitGate (f : Bool) (hcal : s.dose.calibration = .none) (hpath : s.seq.path = .exposing) :
      s.Works { s with dose := { s.dose with calibration := .pending f } }
  | startGate (f : Bool) (hcal : s.dose.calibration = .none) (hpath : s.seq.path ≠ .exposing) : s.Works { s with dose := s.dose.startGate f }
  | setTables (base : Vector Half 3) (classes : Vector Byte 8) (trims : Vector Byte 6) :
      s.Works { s with dose := { s.dose with base := base, classes := classes, trims := trims } }
  | setLamp (duty : Byte) : s.Works (s.setLamp duty)
  | startPeriod : s.Works { s with dose := { s.dose with pwmHigh := s.dose.duty } }
  | takeLowHalf (half : Half) (hdir : s.raster.direction = .inbound) :
      s.Works { s with raster := { s.raster with strobed := true, loneHalf := some half } }
  | takeWord (w : Word) (hdir : s.raster.direction = .inbound) (hroom : s.raster.fifo.length < Config.fifoWords) :
      s.Works ({ s with raster := { s.raster with strobed := true, loneHalf := none, fifo := s.raster.fifo ++ [w] } } : State).streamGo
  | stream : s.Works s.streamGo
  | endFill (f : Fill) (w : Word) (rest : List Word) (hdec : s.raster.decoder = .fill f) (hfifo : s.raster.fifo = w :: rest)
      (hlast : f.count + 1 = f.words) : s.Works (s.finishFill f w rest).streamGo
  | endDrain (w : Word) (rest : List Word) (hdec : s.raster.decoder = .drain 1) (hfifo : s.raster.fifo = w :: rest) :
      s.Works ({ s with raster := { s.raster with fifo := rest, decoder := .header } } : State).streamGo
  | flushPort : s.Works s.flushPort
  | turnOutbound : s.Works s.turnOutbound
  | turnInbound : s.Works { s.abandonListing with raster := { s.abandonListing.raster with direction := .inbound } }
  | beginListing : s.Works s.beginListing
  | sendLowHalf (hdec : s.raster.decoder = .listing) : s.Works { s with raster := { s.raster with strobed := true, lowSent := true } }
  | sendHighHalf (w : Word) (rest : List Word) (hdec : s.raster.decoder = .listing) (hfifo : s.raster.fifo = w :: rest) :
      s.Works (({ s with raster := { s.raster with strobed := true } } : State).nextWordOut rest)
  | takeJob : s.Works s.takeJob
  | showStrobe (hst : s.panel.strobing = true) :
      s.Works { s with panel := { s.panel with strobing := false, awaiting := true, showRisen := true } }
  | panelReady (haw : s.panel.awaiting = true) : s.Works ({ s with panel := { s.panel with awaiting := false } } : State).reportPanelReady
  | goMove : s.Works { s with motion := s.motion.go }
  | arrive (hport : s.motion.port = .moving) : s.Works ({ s with motion := s.motion.finish s.motion.targetTurret } : State).reportArrived
  | failMove (why : PathFault) (hwhy : why ≠ .none) (hport : s.motion.port = .moving) :
      s.Works (({ s with motion := s.motion.finish none } : State).preparationFault why)
  | endMotionDrain (known : Option Turret) (hport : s.motion.port = .draining) : s.Works { s with motion := s.motion.endDrain known }
  | preparationFault (why : PathFault) (hwhy : why ≠ .none) : s.Works (s.preparationFault why)
  | tryOpen : s.Works s.tryOpen
  | pulse (openMs : Nat) : s.Works (s.pulse openMs)
  | endGate (f : Bool) (hcal : s.dose.calibration = .running f) : s.Works ({ s with dose := s.dose.endGate f } : State).tryOpen
  | haltIdle (hpath : s.seq.path = .idle) : s.Works { s with seq := { s.seq with path := .halted } }
  | endRemoved (j : Job) (hjob : s.seq.job = some j) (hpath : s.seq.path = .preparing ∨ s.seq.path = .exposing)
      (hgone : s.jobPlateGone j = true) : s.Works (s.endRemoved j)
  | haltPreparing (j : Job) (hjob : s.seq.job = some j) (hpath : s.seq.path = .preparing) (hgone : s.jobPlateGone j = false) :
      s.Works (s.endPreparing j .halted .none)
  | endSpoiled (j : Job) (openMs : Nat) (path : PathState) (why : PathFault) (hjob : s.seq.job = some j) (hpath : s.seq.path = .exposing)
      (hgone : s.jobPlateGone j = false) (hend : path = .halted ∧ why = .none ∨ path = .faulted ∧ why ≠ .none) :
      s.Works (s.endSpoiled j openMs path why)
  | endReturned (j : Job) (openMs : Nat) (path : PathState) (why : PathFault) (hjob : s.seq.job = some j) (hpath : s.seq.path = .exposing)
      (hgone : s.jobPlateGone j = false) (hend : path = .halted ∧ why = .none ∨ path = .faulted ∧ why ≠ .none) :
      s.Works (s.endReturned j openMs path why)

/-- One change of the link interface, with its pending answer and the latched flags, by the interface state in which it is made. -/
inductive State.Links (s : State) : State → Prop
  | beginFrame (h : s.link.iface = .waitMark) :
      s.Links { s with link := { s.link with iface := .request, rx := { bytes := [], bits := [] }, gapCount := false } }
  | receive (rx : RxBuffer) (h : s.link.iface = .request) : s.Links { s with link := { s.link with rx := rx } }
  | leaveFrame (h : s.link.iface = .request) : s.Links { s with link := { s.link with iface := .waitMark } }
  | enterSync (recessive : Bool) (h : s.link.iface ≠ .off) : s.Links (s.enterSync recessive)
  | failFrame (why : LinkReason) (h : s.link.iface ≠ .off) : s.Links ((s.linkFault why).enterSync true)
  | restartCount (h : s.link.iface = .sync) : s.Links { s with link := { s.link with gapCount := true } }
  | closeGap (h : s.link.iface = .sync) : s.Links { s with link := { s.link with iface := .waitMark, gapCount := false } }
  | readStatusByte (h : s.link.iface = .answer) : s.Links s.readStatusByte
  | tellBit (n : Nat) (h : s.link.iface = .answer) :
      s.Links { s with link := { s.link with tail := s.link.tail.map (fun t => { t with nextBit := n }) } }
  | completeTail (h : s.link.iface = .answer) : s.Links s.completeTail
  | settleLoss (h : s.link.iface = .answer) : s.Links s.settleLoss
  | holdCause (h : s.link.iface = .answer) :
      s.Links { s with link := { s.link with tail := s.link.tail.map (fun t => { t with cut := true }) } }
  | startSlot (h : s.link.iface = .rollWait) :
      s.Links { s with link := { s.link with iface := .answer, tail := s.link.tail.map (fun t => { t with nextBit := 0 }) } }
  | endRoll (h : s.link.iface = .rollWait) : s.Links { s with link := { s.link with iface := .waitMark, tail := none }, answer := none }

/-- One effect. -/
inductive State.Does (s : State) : State → Prop
  | work {t : State} (h : s.Works t) : s.Does t
  | link {t : State} (h : s.Links t) : s.Does t

/-- A run of effects. -/
abbrev State.Reaches : State → State → Prop := Relation.ReflTransGen State.Does

/-- A run of works. -/
abbrev State.WorksTo : State → State → Prop := Relation.ReflTransGen State.Works

/-- What a command comes to: a run of effects, after which a tail may be delivered from REQUEST, or every block be put at its reset values. -/
inductive State.Comes (s : State) : State → Prop
  | run {t : State} (h : s.Reaches t) : s.Comes t
  | deliver (a : Answer) (dst : Addressing) (code : Byte) (h : s.Reaches a.state) (hiface : a.state.link.iface = .request) :
      s.Comes (a.deliver dst code)
  | reset {u : State} (h : s.Reaches u) (phase : ResetPhase) (p : Pins) (plates : Vector Bool 6) (rec : Bool)
      (hphase : phase = .running → s.sup.phase ≠ .running) : s.Comes (u.hardReset phase p plates rec)

theorem State.WorksTo.reaches {s t : State} (h : s.WorksTo t) : s.Reaches t := by
  induction h with
  | refl => exact .refl
  | tail _ hwork ih => exact ih.tail (.work hwork)

theorem State.Works.reaches {s t : State} (h : s.Works t) : s.Reaches t := .single (.work h)

theorem State.Links.reaches {s t : State} (h : s.Links t) : s.Reaches t := .single (.link h)

/-- A change of the link interface touches it, the pending answer and the latched flags alone. -/
theorem State.Links.relinks {s t : State} (h : s.Links t) : ∃ l a sup, t = { s with link := l, answer := a, sup := sup } := by
  cases h with
  | beginFrame | receive | leaveFrame | restartCount | closeGap | tellBit | holdCause | startSlot => exact ⟨_, s.answer, s.sup, rfl⟩
  | enterSync | endRoll => exact ⟨_, none, s.sup, rfl⟩
  | failFrame why => exact ⟨_, none, _, rfl⟩
  | readStatusByte =>
    unfold State.readStatusByte
    split
    · dsimp only
      split
      · exact ⟨_, s.answer, _, rfl⟩
      · exact ⟨_, s.answer, s.sup, rfl⟩
    · exact ⟨s.link, s.answer, s.sup, rfl⟩
  | completeTail =>
    unfold State.completeTail
    split
    · split
      · exact ⟨s.link, s.answer, s.sup, rfl⟩
      · exact ⟨_, none, s.sup, rfl⟩
    · exact ⟨s.link, s.answer, s.sup, rfl⟩
  | settleLoss =>
    have hclash : ∃ sup, (if (s.answer.map (·.clashes)).getD false = true then s.latchClash else s) = { s with sup := sup } := by
      split
      · exact ⟨_, rfl⟩
      · exact ⟨s.sup, rfl⟩
    obtain ⟨sup, hsup⟩ := hclash
    unfold State.settleLoss
    rw [hsup]
    dsimp only
    split
    · exact ⟨_, none, sup, rfl⟩
    · exact ⟨_, none, sup, rfl⟩

/-- Works leave the link interface and the pending answer alone. -/
theorem State.Works.keeps_link {s t : State} (h : s.Works t) : t.link = s.link ∧ t.answer = s.answer := by
  cases h with
  | haltPath => unfold State.haltPath; split <;> exact ⟨rfl, rfl⟩
  | setLamp => unfold State.setLamp; split <;> exact ⟨rfl, rfl⟩
  | tellPins | tellPlate | settlePlate | dropReport | deleteNext | endDeletion | openMaster | closeMaster | release | place
  | rekeyWithin | rekeyMove | setClass | retire | replace | queueListing | resume | awaitGate | startGate | setTables | startPeriod
  | takeLowHalf | takeWord | stream | endFill | endDrain | flushPort | turnOutbound | turnInbound | beginListing | sendLowHalf
  | sendHighHalf | takeJob | showStrobe | panelReady | goMove | arrive | failMove | endMotionDrain | preparationFault | tryOpen | pulse
  | endGate | haltIdle | endRemoved | haltPreparing | endSpoiled | endReturned => simp

theorem State.WorksTo.keeps_link {s t : State} (h : s.WorksTo t) : t.link = s.link ∧ t.answer = s.answer := by
  induction h with
  | refl => exact ⟨rfl, rfl⟩
  | tail _ hwork ih => exact ⟨hwork.keeps_link.1.trans ih.1, hwork.keeps_link.2.trans ih.2⟩

/-! ## Requests -/

/-- The state that an answer leaves for the link interface is reached by the request's own effect. -/
def Answer.ReachedFrom (a : Answer) (s : State) : Prop := s.WorksTo a.state

theorem Answer.reached_same {a : Answer} {s : State} (h : a.state = s) : a.ReachedFrom s := h ▸ Relation.ReflTransGen.refl

theorem Answer.reached_does {a : Answer} {s : State} (h : s.Works a.state) : a.ReachedFrom s := .single h

/-- A delivery changes the link interface and the pending answer alone. -/
theorem Answer.deliver_eq_relink (a : Answer) (dst : Addressing) (code : Byte) :
    a.deliver dst code = { a.state with link := (a.deliver dst code).link, answer := (a.deliver dst code).answer, sup := a.state.sup } := by
  unfold Answer.deliver
  cases a.reply <;> rfl

theorem State.request_comes (s : State) (dst : Addressing) (code : Byte) (unit : State → Answer) (h : (unit s).ReachedFrom s) :
    s.Comes (s.request dst code unit) := by
  rcases s.request_cases dst code unit with ⟨_, hiface, heq⟩ | ⟨_, heq⟩
  · rw [heq]; exact .deliver _ dst code (State.WorksTo.reaches h) ((State.WorksTo.keeps_link h).1 ▸ hiface)
  · rw [heq]; exact .run .refl

theorem dispatch_reached (dst : Addressing) (auth exempt : Bool) (own : State → Answer) (s : State) (h : (own s).ReachedFrom s) :
    (dispatch dst auth exempt own s).ReachedFrom s := by
  rcases dispatch_cases dst auth exempt own s with ⟨_, heq⟩ | ⟨_, _, heq⟩ | ⟨_, _, _, _, heq⟩ | ⟨_, _, _, heq⟩
  · exact heq ▸ Answer.reached_same rfl
  · exact heq ▸ Answer.reached_same rfl
  · exact heq ▸ Answer.reached_same rfl
  · exact heq ▸ h

theorem unitStatus_reached (dst : Addressing) (src : Node) (clear : Byte) (s : State) : (unitStatus dst src clear s).ReachedFrom s := by
  cases dst with
  | group => exact Answer.reached_same rfl
  | direct =>
    refine dispatch_reached _ _ _ _ s ?_
    unfold ownStatus
    split <;> exact Answer.reached_same rfl

theorem unitMasterOpen_reached (dst : Addressing) (src : Node) (slot format : Byte) (label : Half) (low high : Account) (s : State) :
    (unitMasterOpen dst src slot format label low high s).ReachedFrom s := by
  refine dispatch_reached _ _ _ _ s ?_
  unfold ownMasterOpen
  split
  · exact Answer.reached_same rfl
  next sl _ =>
    split
    · exact Answer.reached_same rfl
    split
    · exact Answer.reached_same rfl
    next hst =>
      split
      · exact Answer.reached_same rfl
      next f _ =>
        split
        · exact Answer.reached_same rfl
        next hrange =>
          split
          · exact Answer.reached_same rfl
          next hfree =>
            exact Answer.reached_does (.openMaster sl f label low high (not_not.mp hst) (Nat.not_lt.mp hrange) (Bool.eq_false_iff.mpr hfree))

theorem unitMasterClose_reached (dst : Addressing) (src : Node) (slot : Byte) (s : State) : (unitMasterClose dst src slot s).ReachedFrom s := by
  refine dispatch_reached _ _ _ _ s ?_
  unfold ownMasterClose
  split
  · exact Answer.reached_same rfl
  next sl _ =>
    split
    · exact Answer.reached_same rfl
    split
    · exact Answer.reached_same rfl
    next hst => exact Answer.reached_does (.closeMaster sl (not_not.mp hst))

theorem unitMasterState_reached (dst : Addressing) (src : Node) (slot : Byte) (s : State) : (unitMasterState dst src slot s).ReachedFrom s := by
  refine dispatch_reached _ _ _ _ s ?_
  unfold ownMasterState
  split <;> exact Answer.reached_same rfl

theorem unitMasterRelease_reached (dst : Addressing) (src : Node) (slot : Byte) (s : State) :
    (unitMasterRelease dst src slot s).ReachedFrom s := by
  refine dispatch_reached _ _ _ _ s ?_
  unfold ownMasterRelease
  split
  · exact Answer.reached_same rfl
  next sl _ =>
    split
    · exact Answer.reached_same rfl
    next hst =>
      split
      · exact Answer.reached_same rfl
      next hbanks =>
        obtain ⟨ha, hb⟩ := Bool.or_eq_false_iff.mp (Bool.eq_false_iff.mpr hbanks)
        exact Answer.reached_does (.release sl (Bool.not_eq_false _ ▸ hst) ha hb)

theorem ownPlace_reached (dst : Addressing) (src : Node) (k : Key) (cls : Byte) (s : State) : (ownPlace dst src k cls s).ReachedFrom s := by
  unfold ownPlace
  split
  next c _ _ =>
    split
    · exact Answer.reached_same rfl
    split
    · cases dst <;> exact Answer.reached_same rfl
    next sl hcover =>
      split
      · exact Answer.reached_same rfl
      next cell hcell =>
        split
        · exact Answer.reached_same rfl
        next e rest hentry => exact Answer.reached_does (.place k c sl cell e rest src hcover hcell hentry)
  · exact Answer.reached_same rfl

theorem unitPlace_reached (dst : Addressing) (src : Node) (k : Key) (cls : Byte) (s : State) : (unitPlace dst src k cls s).ReachedFrom s := by
  cases dst with
  | direct => exact dispatch_reached _ _ _ _ s (ownPlace_reached ..)
  | group =>
    unfold unitPlace
    dsimp only
    split
    · exact Answer.reached_same rfl
    · exact ownPlace_reached ..

theorem unitLookup_reached (src : Node) (k : Key) (s : State) : (unitLookup src k s).ReachedFrom s := by
  refine dispatch_reached _ _ _ _ s ?_
  unfold ownLookup
  split <;> exact Answer.reached_same rfl

theorem unitGroupLookup_reached (src : Node) (k : Key) (s : State) : (unitGroupLookup src k s).ReachedFrom s := by
  unfold unitGroupLookup
  split
  · exact Answer.reached_same rfl
  · split <;> exact Answer.reached_same rfl

theorem unitFetch_reached (dst : Addressing) (src : Node) (h : Handle) (s : State) : (unitFetch dst src h s).ReachedFrom s := by
  refine dispatch_reached _ _ _ _ s ?_
  unfold ownFetch
  split <;> exact Answer.reached_same rfl

theorem unitRekey_reached (dst : Addressing) (src : Node) (h : Handle) (k : Key) (s : State) : (unitRekey dst src h k s).ReachedFrom s := by
  refine dispatch_reached _ _ _ _ s ?_
  unfold ownRekey
  split
  · exact Answer.reached_same rfl
  split
  · exact Answer.reached_same rfl
  next r hr =>
    split
    · exact Answer.reached_same rfl
    next hst =>
      split
      · exact Answer.reached_same rfl
      next hrec =>
        split
        · exact Answer.reached_same rfl
        split
        next hcover => exact Answer.reached_does (.rekeyWithin h r k hr hcover)
        next hown =>
          split
          · exact Answer.reached_same rfl
          next sl hcover =>
            split
            · exact Answer.reached_same rfl
            next cell hcell =>
              exact Answer.reached_does
                (.rekeyMove h r k sl cell hr hst (Bool.not_eq_false _ ▸ hrec) (Bool.eq_false_iff.mpr hown) hcover hcell)

theorem unitSetClass_reached (dst : Addressing) (src : Node) (h : Handle) (cls : Byte) (s : State) :
    (unitSetClass dst src h cls s).ReachedFrom s := by
  refine dispatch_reached _ _ _ _ s ?_
  unfold ownSetClass
  split
  · exact Answer.reached_same rfl
  next c _ =>
    split
    · exact Answer.reached_same rfl
    next r hr =>
      split
      · exact Answer.reached_same rfl
      split
      · exact Answer.reached_same rfl
      · exact Answer.reached_does (.setClass h r c hr)

theorem unitRetire_reached (dst : Addressing) (src : Node) (h : Handle) (s : State) : (unitRetire dst src h s).ReachedFrom s := by
  refine dispatch_reached _ _ _ _ s ?_
  unfold ownRetire
  split
  · exact Answer.reached_same rfl
  next r hr =>
    split
    · exact Answer.reached_same rfl
    split
    · exact Answer.reached_same rfl
    · exact Answer.reached_does (.retire h r hr)

theorem unitReplace_reached (dst : Addressing) (src : Node) (h : Handle) (s : State) : (unitReplace dst src h s).ReachedFrom s := by
  refine dispatch_reached _ _ _ _ s ?_
  unfold ownReplace
  split
  · exact Answer.reached_same rfl
  next r hr =>
    split
    · exact Answer.reached_same rfl
    split
    · exact Answer.reached_same rfl
    next hst =>
      obtain ⟨hrec, hmaster⟩ := not_or.mp hst
      split
      · exact Answer.reached_same rfl
      next cell hcell => exact Answer.reached_does (.replace h r cell hr (not_not.mp hrec) (not_not.mp hmaster) hcell)

theorem unitIndexRead_reached (dst : Addressing) (src : Node) (slot page : Byte) (s : State) :
    (unitIndexRead dst src slot page s).ReachedFrom s := by
  refine dispatch_reached _ _ _ _ s ?_
  unfold ownIndexRead
  split
  · exact Answer.reached_same rfl
  · split <;> exact Answer.reached_same rfl

theorem unitListing_reached (dst : Addressing) (src : Node) (slot : Byte) (s : State) : (unitListing dst src slot s).ReachedFrom s := by
  refine dispatch_reached _ _ _ _ s ?_
  unfold ownListing
  split
  · exact Answer.reached_same rfl
  next sl _ =>
    split
    · exact Answer.reached_same rfl
    split
    · exact Answer.reached_same rfl
    split
    · exact Answer.reached_same rfl
    next hplace => exact (Relation.ReflTransGen.single (State.Works.queueListing sl (not_not.mp hplace))).tail .beginListing

theorem unitTitleSummary_reached (dst : Addressing) (src : Node) (slot : Byte) (s : State) :
    (unitTitleSummary dst src slot s).ReachedFrom s := by
  refine dispatch_reached _ _ _ _ s ?_
  unfold ownTitleSummary
  split
  · exact Answer.reached_same rfl
  · split
    · exact Answer.reached_same rfl
    · split <;> exact Answer.reached_same rfl

theorem unitHalt_reached (dst : Addressing) (src : Node) (s : State) : (unitHalt dst src s).ReachedFrom s :=
  dispatch_reached _ _ _ _ s (Answer.reached_does .haltPath)

theorem unitResume_reached (dst : Addressing) (src : Node) (s : State) : (unitResume dst src s).ReachedFrom s := by
  refine dispatch_reached _ _ _ _ s ?_
  unfold ownResume
  split
  next hpath => exact (Relation.ReflTransGen.single (State.Works.resume hpath)).tail .takeJob
  · exact Answer.reached_same rfl

theorem unitCalibrate_reached (dst : Addressing) (src : Node) (flag : Byte) (s : State) : (unitCalibrate dst src flag s).ReachedFrom s := by
  refine dispatch_reached _ _ _ _ s ?_
  unfold ownCalibrate
  split
  · exact Answer.reached_same rfl
  split
  · exact Answer.reached_same rfl
  next hcal =>
    split
    next hpath => exact Answer.reached_does (.awaitGate _ (not_not.mp hcal) hpath)
    next hpath => exact Answer.reached_does (.startGate _ (not_not.mp hcal) hpath)

theorem unitSetDose_reached (dst : Addressing) (src : Node) (table index : Byte) (value : Half) (s : State) :
    (unitSetDose dst src table index value s).ReachedFrom s := by
  refine dispatch_reached _ _ _ _ s ?_
  unfold ownSetDose
  split
  · split
    · split
      · exact Answer.reached_same rfl
      · exact Answer.reached_does (.setTables _ _ _)
    · exact Answer.reached_same rfl
  · split
    · split
      · split
        · exact Answer.reached_same rfl
        · exact Answer.reached_does (.setTables _ _ _)
      · exact Answer.reached_same rfl
    · exact Answer.reached_same rfl

theorem unitSetTrim_reached (dst : Addressing) (src : Node) (slot value : Byte) (s : State) : (unitSetTrim dst src slot value s).ReachedFrom s := by
  refine dispatch_reached _ _ _ _ s ?_
  unfold ownSetTrim
  split
  · exact Answer.reached_same rfl
  · split
    · exact Answer.reached_same rfl
    · split
      · exact Answer.reached_same rfl
      · exact Answer.reached_does (.setTables _ _ _)

theorem unitSetLamp_reached (dst : Addressing) (src : Node) (duty : Byte) (s : State) : (unitSetLamp dst src duty s).ReachedFrom s :=
  dispatch_reached _ _ _ _ s (Answer.reached_does (.setLamp duty))

theorem wrongLength_reached (dst : Addressing) (s : State) : (wrongLength dst s).ReachedFrom s := by
  cases dst <;> exact Answer.reached_same rfl

/-- A request portion's code comes to one of the requests, or is refused with no effect. -/
theorem serve_reached (dst : Addressing) (src : Node) (code : Byte) (params : List Byte) (s : State) :
    (serve dst src code params s).ReachedFrom s := by
  unfold serve
  split
  · split
    · exact unitStatus_reached ..
    · exact wrongLength_reached ..
  · split
    · exact unitMasterOpen_reached ..
    · exact wrongLength_reached ..
  · split
    · exact unitMasterClose_reached ..
    · exact wrongLength_reached ..
  · split
    · exact unitMasterState_reached ..
    · exact wrongLength_reached ..
  · split
    · exact unitMasterRelease_reached ..
    · exact wrongLength_reached ..
  · split
    · exact unitPlace_reached ..
    · cases dst with
      | direct => exact Answer.reached_same rfl
      | group => dsimp only; split <;> exact Answer.reached_same rfl
  · split
    · cases dst with
      | direct => exact unitLookup_reached ..
      | group => exact unitGroupLookup_reached ..
    · exact wrongLength_reached ..
  · split
    · exact unitFetch_reached ..
    · exact wrongLength_reached ..
  · split
    · exact unitRekey_reached ..
    · exact wrongLength_reached ..
  · split
    · exact unitSetClass_reached ..
    · exact wrongLength_reached ..
  · split
    · exact unitRetire_reached ..
    · exact wrongLength_reached ..
  · split
    · exact unitReplace_reached ..
    · exact wrongLength_reached ..
  · split
    · exact unitIndexRead_reached ..
    · exact wrongLength_reached ..
  · split
    · exact unitListing_reached ..
    · exact wrongLength_reached ..
  · split
    · exact unitTitleSummary_reached ..
    · exact wrongLength_reached ..
  · split
    · exact unitHalt_reached ..
    · exact wrongLength_reached ..
  · split
    · exact unitResume_reached ..
    · exact wrongLength_reached ..
  · split
    · exact unitCalibrate_reached ..
    · exact wrongLength_reached ..
  · split
    · exact unitSetDose_reached ..
    · exact wrongLength_reached ..
  · split
    · exact unitSetTrim_reached ..
    · exact wrongLength_reached ..
  · split
    · exact unitSetLamp_reached ..
    · exact wrongLength_reached ..
  · cases dst <;> exact Answer.reached_same rfl

end Sys2Proof.Machine

namespace Sys2Proof.Machine

/-! ## The events -/

/-- A guarded effect is reached if it is reached out of reset. -/
theorem State.whileRunning_reaches (s : State) (f : State → State) (h : s.Reaches (f s)) : s.Reaches (s.whileRunning f) := by
  rcases s.whileRunning_cases f with ⟨_, heq⟩ | ⟨_, heq⟩
  · rwa [heq]
  · rw [heq]

theorem State.whileRunning_comes_of_reaches {s u : State} (hreach : s.Reaches u) (f : State → State) (h : s.Comes (f u)) :
    s.Comes (u.whileRunning f) := by
  rcases u.whileRunning_cases f with ⟨_, heq⟩ | ⟨_, heq⟩
  · rwa [heq]
  · rw [heq]; exact .run hreach

theorem State.whileRunning_comes (s : State) (f : State → State) (h : s.Comes (f s)) : s.Comes (s.whileRunning f) :=
  State.whileRunning_comes_of_reaches .refl f h

theorem State.streamGo_of_waiting {s : State} (h : s.raster.decoder = .waitBank) : s.examineHeader.consume = s.streamGo := by
  rw [State.streamGo, s.takeHeader_of_ne (by simp [h])]

theorem State.takeRemovalReport_reaches (s : State) : s.Reaches s.takeRemovalReport := by
  unfold State.takeRemovalReport
  split
  · exact .refl
  next sl rest _ =>
    have hdrop : s.Reaches { s with removalReports := rest } := (State.Works.dropReport rest).reaches
    dsimp only
    split
    next j hpath hjob =>
      split
      next hgone => exact hdrop.tail (.work (.endRemoved j hjob (.inl hpath) hgone.2))
      · exact hdrop
    next j hpath hjob =>
      split
      next hgone => exact hdrop.tail (.work (.endRemoved j hjob (.inr hpath) hgone.2))
      · exact hdrop
    · exact hdrop

theorem State.attentionPath_reaches (s : State) (openMs : Nat) : s.Reaches (s.attentionPath openMs) := by
  unfold State.attentionPath
  split
  next hpath => exact (State.Works.haltIdle hpath).reaches
  next j hpath hjob =>
    split
    next hgone => exact (State.Works.endRemoved j hjob (.inl hpath) hgone).reaches
    next hgone => exact (State.Works.haltPreparing j hjob hpath (Bool.eq_false_iff.mpr hgone)).reaches
  next j hpath hjob =>
    split
    next hgone => exact (State.Works.endRemoved j hjob (.inr hpath) hgone).reaches
    next hgone =>
      unfold State.endShort
      split
      · exact (State.Works.endSpoiled j _ _ _ hjob hpath (Bool.eq_false_iff.mpr hgone) (.inl ⟨rfl, rfl⟩)).reaches
      · exact (State.Works.endReturned j _ _ _ hjob hpath (Bool.eq_false_iff.mpr hgone) (.inl ⟨rfl, rfl⟩)).reaches
  · exact .refl

/-! Changes of the link interface, by the state it is in. -/

theorem State.readStatusByte_iface (s : State) : s.readStatusByte.link.iface = s.link.iface := by
  unfold State.readStatusByte
  split
  · dsimp only
    split <;> rfl
  · rfl

/-- The cause of a cut-off in ANSWER settled. -/
theorem State.settleCause_reaches {s : State} (h : s.link.iface = .answer) (cause : CutCause) : s.Reaches (s.settleCause cause) := by
  have hon : s.link.iface ≠ .off := by simp [h]
  cases cause with
  | lostArbitration => exact (State.Links.settleLoss h).reaches
  | bitError => exact (State.Links.failFrame _ hon).reaches
  | breakPulse => exact (State.Links.enterSync _ hon).reaches
  | invalidSymbol => exact (State.Links.failFrame _ hon).reaches
  | unsettled => exact (State.Links.holdCause h).reaches

/-- A placement of a cut-off tail is retired, which leaves the link interface alone. -/
theorem State.reportCutOff_worksTo (s : State) : s.WorksTo s.reportCutOff := by
  unfold State.reportCutOff
  split
  next h _ =>
    split
    next r hr => exact .single (State.Works.retire h r hr)
    · exact .refl
  · exact .refl

theorem State.cutOff_reaches {s : State} (h : s.link.iface = .answer) (n : Nat) (cause : CutCause) : s.Reaches (s.cutOff n cause) := by
  unfold State.cutOff
  split
  next t _ =>
    split
    · exact s.settleCause_reaches h cause
    · have hat : s.Reaches (s.tailAt n) ∧ (s.tailAt n).link.iface = .answer := by
        unfold State.tailAt
        split
        · exact ⟨(State.Links.readStatusByte h).reaches, s.readStatusByte_iface.trans h⟩
        · exact ⟨.refl, h⟩
      have htold := State.Links.tellBit n hat.2
      have hreport := State.reportCutOff_worksTo
        { s.tailAt n with link := { (s.tailAt n).link with tail := (s.tailAt n).link.tail.map (fun t => { t with nextBit := n }) } }
      refine ((hat.1.tail (.link htold)).trans (State.WorksTo.reaches hreport)).trans (State.settleCause_reaches ?_ cause)
      exact (congrArg LinkInterface.iface (State.WorksTo.keeps_link hreport).1).trans hat.2
  · exact .refl

theorem State.takeCutOff_reaches {s : State} (h : s.link.iface = .answer) (n : Nat) (cause : CutCause) : s.Reaches (s.takeCutOff n cause) := by
  unfold State.takeCutOff
  split
  · exact State.cutOff_reaches h n cause
  · exact .refl

theorem State.onInvalidSymbol_reaches (s : State) : s.Reaches s.onInvalidSymbol := by
  unfold State.onInvalidSymbol
  split
  · exact .refl
  · exact .refl
  next h => exact (State.Links.restartCount h).reaches
  next h => exact (State.Links.failFrame _ (by simp [h])).reaches
  next h => exact (State.Links.failFrame _ (by simp [h])).reaches
  next h => exact State.cutOff_reaches h _ _

/-- A portion that has been received is rejected, left to another target, or served and answered. -/
theorem State.acceptPortion_comes {s u : State} (hreach : s.Reaches u) (h : u.link.iface = .request) : s.Comes u.acceptPortion := by
  have hfail : ∀ why, s.Comes ((u.linkFault why).enterSync true) := fun why =>
    .run (hreach.tail (.link (.failFrame why (by simp [h]))))
  unfold State.acceptPortion
  split
  · split
    · exact hfail _
    · split
      · exact hfail _
      · split
        · exact .deliver _ _ _ (hreach.trans (State.WorksTo.reaches (serve_reached ..)))
            ((congrArg LinkInterface.iface (State.WorksTo.keeps_link (serve_reached ..)).1).trans h)
        · exact .run (hreach.tail (.link (.leaveFrame h)))
  · exact hfail _

/-- What follows a decoder's return to HEADER: a run of its own effects. -/
theorem State.afterRaster_reaches {s t : State} (h : s.Reaches t.streamGo) : s.Reaches t.afterRaster :=
  ((h.tail (.work .takeJob)).tail (.work .turnOutbound)).tail (.work .beginListing)

theorem State.turnAndList_reaches (s : State) : s.Reaches s.turnAndList :=
  (State.Works.turnOutbound).reaches.tail (.work .beginListing)

/-- The edge that brings the count to T acts as an edge of PHOTO. -/
theorem State.reachTarget_eq_pulse {s : State} {j : Job} (hcount : s.dose.counter = .integrating) (hpath : s.seq.path = .exposing)
    (hjob : s.seq.job = some j) (htarget : j.target ≤ s.dose.count + 1) (n : Nat) : s.reachTarget j n = s.pulse n := by
  simp [State.pulse, hcount, hpath, hjob, htarget]

/-- READY outbound needs a listing. -/
theorem State.ready_outbound {s : State} (h : s.ready = true) (hdir : s.raster.direction = .outbound) : s.raster.decoder = .listing := by
  simp only [State.ready, hdir, Bool.and_eq_true, decide_eq_true_eq] at h
  exact h.2.1

/-- READY inbound needs room in the FIFO. -/
theorem State.ready_inbound {s : State} (h : s.ready = true) (hdir : s.raster.direction = .inbound) :
    s.raster.fifo.length < Config.fifoWords := by
  simp only [State.ready, hdir, Bool.and_eq_true, decide_eq_true_eq] at h
  exact h.2

theorem State.ready_of_readyAt {s : State} {risen : Bool} (h : s.readyAt risen = true) : s.ready = true := by
  simp only [State.readyAt, Bool.and_eq_true] at h
  exact h.1

/-- Every command completes, and comes to a run of the named effects with what may follow it. -/
theorem exec_comes (c : Instr) (s : State) : ∃ t, exec c s = .next t ∧ s.Comes t := by
  cases c with
  | plateLevelChange sl level =>
    refine ⟨_, rfl, .run ?_⟩
    split
    · exact .refl
    · exact (State.Works.tellPlate sl level _).reaches
  | plateSettleExpiry sl => exact ⟨_, rfl, .run (s.whileRunning_reaches _ (State.Works.settlePlate sl).reaches)⟩
  | plateRemovalReport => exact ⟨_, rfl, .run (s.whileRunning_reaches _ s.takeRemovalReport_reaches)⟩
  | status dst src clear => exact ⟨_, rfl, s.request_comes _ _ _ (unitStatus_reached ..)⟩
  | masterOpen dst src slot format label low high => exact ⟨_, rfl, s.request_comes _ _ _ (unitMasterOpen_reached ..)⟩
  | masterClose dst src slot => exact ⟨_, rfl, s.request_comes _ _ _ (unitMasterClose_reached ..)⟩
  | masterState dst src slot => exact ⟨_, rfl, s.request_comes _ _ _ (unitMasterState_reached ..)⟩
  | masterRelease dst src slot => exact ⟨_, rfl, s.request_comes _ _ _ (unitMasterRelease_reached ..)⟩
  | place dst src key cls => exact ⟨_, rfl, s.request_comes _ _ _ (unitPlace_reached ..)⟩
  | lookup src key => exact ⟨_, rfl, s.request_comes _ _ _ (unitLookup_reached ..)⟩
  | groupLookup src key => exact ⟨_, rfl, s.request_comes _ _ _ (unitGroupLookup_reached ..)⟩
  | fetch dst src handle => exact ⟨_, rfl, s.request_comes _ _ _ (unitFetch_reached ..)⟩
  | rekey dst src handle key => exact ⟨_, rfl, s.request_comes _ _ _ (unitRekey_reached ..)⟩
  | setClass dst src handle cls => exact ⟨_, rfl, s.request_comes _ _ _ (unitSetClass_reached ..)⟩
  | retire dst src handle => exact ⟨_, rfl, s.request_comes _ _ _ (unitRetire_reached ..)⟩
  | replace dst src handle => exact ⟨_, rfl, s.request_comes _ _ _ (unitReplace_reached ..)⟩
  | indexRead dst src slot page => exact ⟨_, rfl, s.request_comes _ _ _ (unitIndexRead_reached ..)⟩
  | listing dst src slot => exact ⟨_, rfl, s.request_comes _ _ _ (unitListing_reached ..)⟩
  | titleSummary dst src slot => exact ⟨_, rfl, s.request_comes _ _ _ (unitTitleSummary_reached ..)⟩
  | halt dst src => exact ⟨_, rfl, s.request_comes _ _ _ (unitHalt_reached ..)⟩
  | resume dst src => exact ⟨_, rfl, s.request_comes _ _ _ (unitResume_reached ..)⟩
  | calibrate dst src flag => exact ⟨_, rfl, s.request_comes _ _ _ (unitCalibrate_reached ..)⟩
  | setDose dst src table index value => exact ⟨_, rfl, s.request_comes _ _ _ (unitSetDose_reached ..)⟩
  | setTrim dst src slot value => exact ⟨_, rfl, s.request_comes _ _ _ (unitSetTrim_reached ..)⟩
  | setLamp dst src duty => exact ⟨_, rfl, s.request_comes _ _ _ (unitSetLamp_reached ..)⟩
  | openingMark =>
    refine ⟨_, rfl, .run (s.whileRunning_reaches _ ?_)⟩
    dsimp only
    split
    next h => exact (State.Links.beginFrame h).reaches
    all_goals exact s.onInvalidSymbol_reaches
  | turnGapEnd bits =>
    refine ⟨_, rfl, s.whileRunning_comes _ ?_⟩
    dsimp only
    split
    next h => exact State.acceptPortion_comes (State.Links.receive _ h).reaches h
    all_goals exact .run .refl
  | invalidSymbol => exact ⟨_, rfl, .run (s.whileRunning_reaches _ s.onInvalidSymbol_reaches)⟩
  | breakPulse =>
    refine ⟨_, rfl, .run (s.whileRunning_reaches _ ?_)⟩
    dsimp only
    split
    · exact .refl
    next h => exact State.cutOff_reaches h _ _
    next h => exact (State.Links.receive _ h).reaches.tail (.link (.enterSync _ (by simp [h])))
    next h => exact (State.Links.enterSync _ (by simp [h])).reaches
    next h => exact (State.Links.enterSync _ (by simp [h])).reaches
    next h => exact (State.Links.enterSync _ (by simp [h])).reaches
  | closeGap =>
    refine ⟨_, rfl, .run (s.whileRunning_reaches _ ?_)⟩
    dsimp only
    split
    next h => exact (State.Links.closeGap h).reaches
    all_goals exact .refl
  | tailComplete =>
    refine ⟨_, rfl, .run (s.whileRunning_reaches _ ?_)⟩
    split
    next h => exact (State.Links.readStatusByte h).reaches.tail (.link (.completeTail (s.readStatusByte_iface.trans h)))
    all_goals exact .refl
  | tailCutOff n cause =>
    refine ⟨_, rfl, .run (s.whileRunning_reaches _ ?_)⟩
    split
    next h => exact State.takeCutOff_reaches h n cause
    all_goals exact .refl
  | statusByteRead =>
    refine ⟨_, rfl, .run (s.whileRunning_reaches _ ?_)⟩
    split
    next h => exact (State.Links.readStatusByte h).reaches
    all_goals exact .refl
  | rollSlotStart =>
    refine ⟨_, rfl, .run (s.whileRunning_reaches _ ?_)⟩
    dsimp only
    split
    next h => exact (State.Links.startSlot h).reaches
    all_goals exact .refl
  | rollGap =>
    refine ⟨_, rfl, .run (s.whileRunning_reaches _ ?_)⟩
    dsimp only
    split
    next h => exact (State.Links.endRoll h).reaches
    all_goals exact .refl
  | halfWordIn edge =>
    refine ⟨_, rfl, .run ?_⟩
    split
    next hready =>
      split
      · exact (State.Works.takeLowHalf _ hready.2).reaches
      · exact (State.Works.takeWord _ hready.2 (State.ready_inbound (State.ready_of_readyAt hready.1) hready.2)).reaches
    · exact .refl
  | headerTaken =>
    refine ⟨_, rfl, .run (s.whileRunning_reaches _ ?_)⟩
    split
    · exact (State.Works.stream).reaches
    · exact .refl
  | headerExamination =>
    refine ⟨_, rfl, .run (s.whileRunning_reaches _ ?_)⟩
    split
    next hdec => exact State.streamGo_of_waiting hdec ▸ (State.Works.stream).reaches
    · exact .refl
  | fillEnd =>
    refine ⟨_, rfl, .run (s.whileRunning_reaches _ ?_)⟩
    split
    next f w rest hdec hfifo =>
      split
      next hlast => exact State.afterRaster_reaches (State.Works.endFill f w rest hdec hfifo hlast).reaches
      · exact .refl
    · exact .refl
  | drainComplete =>
    refine ⟨_, rfl, .run (s.whileRunning_reaches _ ?_)⟩
    dsimp only
    split
    next w rest hdec hfifo => exact State.afterRaster_reaches (State.Works.endDrain w rest hdec hfifo).reaches
    · exact .refl
  | flush att =>
    have hpins := (State.Works.tellPins (s := s) { s.pins with attention := att, flush := true }).reaches
    refine ⟨_, rfl, State.whileRunning_comes_of_reaches hpins _ ?_⟩
    dsimp only
    split
    · exact .reset hpins _ _ _ _ (by simp)
    · exact .run (hpins.trans ((State.Works.flushPort).reaches.trans (State.turnAndList_reaches _)))
  | dirRise =>
    exact ⟨_, rfl, .run ((State.Works.tellPins { s.pins with dir := true }).reaches.trans
      (State.whileRunning_reaches _ _ (State.turnAndList_reaches _)))⟩
  | directionOutbound => exact ⟨_, rfl, .run (s.whileRunning_reaches _ s.turnAndList_reaches)⟩
  | dirFall =>
    exact ⟨_, rfl, .run ((State.Works.tellPins { s.pins with dir := false }).reaches.trans
      (State.whileRunning_reaches _ _ (State.Works.turnInbound).reaches))⟩
  | listingBegin => exact ⟨_, rfl, .run (s.whileRunning_reaches _ (State.Works.beginListing).reaches)⟩
  | halfWordOut =>
    refine ⟨_, rfl, .run ?_⟩
    split
    next hready =>
      have hdec := State.ready_outbound hready.1 hready.2
      split
      next w rest hfifo =>
        split
        · exact (State.Works.sendHighHalf w rest hdec hfifo).reaches
        · exact (State.Works.sendLowHalf hdec).reaches
      · exact .refl
    · exact .refl
  | jobTake => exact ⟨_, rfl, .run (s.whileRunning_reaches _ (State.Works.takeJob).reaches)⟩
  | pnlShow =>
    refine ⟨_, rfl, .run (s.whileRunning_reaches _ ?_)⟩
    dsimp only
    split
    next hst => exact (State.Works.showStrobe hst).reaches
    · exact .refl
  | panelReady =>
    refine ⟨_, rfl, .run (s.whileRunning_reaches _ ?_)⟩
    dsimp only
    split
    next haw => exact (State.Works.panelReady haw).reaches
    · exact .refl
  | motGo => exact ⟨_, rfl, .run (s.whileRunning_reaches _ (State.Works.goMove).reaches)⟩
  | inPosition =>
    refine ⟨_, rfl, .run (s.whileRunning_reaches _ ?_)⟩
    split
    next hport => exact (State.Works.arrive hport).reaches
    next hport => exact (State.Works.endMotionDrain _ hport).reaches
    all_goals exact .refl
  | motionFault =>
    refine ⟨_, rfl, .run (s.whileRunning_reaches _ ?_)⟩
    split
    next hport => exact (State.Works.failMove _ (by decide) hport).reaches
    next hport => exact (State.Works.endMotionDrain _ hport).reaches
    all_goals exact .refl
  | moveTimerExpiry =>
    refine ⟨_, rfl, .run (s.whileRunning_reaches _ ?_)⟩
    split
    · exact .refl
    · split
      next hport => exact (State.Works.failMove _ (by decide) hport).reaches
      next hport => exact (State.Works.endMotionDrain _ hport).reaches
      all_goals exact .refl
  | panelTimeout =>
    refine ⟨_, rfl, .run (s.whileRunning_reaches _ ?_)⟩
    split
    · exact (State.Works.preparationFault _ (by decide)).reaches
    · exact .refl
  | shutterOpen => exact ⟨_, rfl, .run (s.whileRunning_reaches _ (State.Works.tryOpen).reaches)⟩
  | photoPulse openMs => exact ⟨_, rfl, .run (s.whileRunning_reaches _ (State.Works.pulse _).reaches)⟩
  | countReachesT openMs =>
    refine ⟨_, rfl, .run (s.whileRunning_reaches _ ?_)⟩
    split
    next j hcount hpath hjob =>
      split
      next htarget =>
        rw [State.reachTarget_eq_pulse hcount hpath hjob htarget]
        exact (State.Works.pulse _).reaches
      · exact .refl
    · exact .refl
  | limitExpiry =>
    refine ⟨_, rfl, .run (s.whileRunning_reaches _ ?_)⟩
    split
    next j _ hpath hjob =>
      split
      next hgone => exact (State.Works.endRemoved j hjob (.inr hpath) hgone).reaches
      next hgone =>
        unfold State.endShort
        split
        · exact (State.Works.endSpoiled j _ _ _ hjob hpath (Bool.eq_false_iff.mpr hgone) (.inr ⟨rfl, by decide⟩)).reaches
        · exact (State.Works.endReturned j _ _ _ hjob hpath (Bool.eq_false_iff.mpr hgone) (.inr ⟨rfl, by decide⟩)).reaches
    · exact .refl
  | lampDarkExpiry =>
    refine ⟨_, rfl, .run (s.whileRunning_reaches _ ?_)⟩
    split
    next j _ hpath hjob =>
      split
      next hgone => exact (State.Works.endRemoved j hjob (.inr hpath) hgone).reaches
      next hgone => exact (State.Works.endReturned j _ _ _ hjob hpath (Bool.eq_false_iff.mpr hgone) (.inr ⟨rfl, by decide⟩)).reaches
    · exact .refl
  | gateEnd =>
    refine ⟨_, rfl, .run (s.whileRunning_reaches _ ?_)⟩
    split
    next f hcal => exact (State.Works.endGate f hcal).reaches.tail (.work .takeJob)
    all_goals exact .refl
  | attention openMs =>
    have hpins := (State.Works.tellPins (s := s) { s.pins with attention := true }).reaches
    refine ⟨_, rfl, State.whileRunning_comes_of_reaches hpins _ ?_⟩
    dsimp only
    split
    · exact .reset hpins _ _ _ _ (by simp)
    · exact .run (hpins.trans (State.attentionPath_reaches _ _))
  | releaseDeletion => exact ⟨_, rfl, .run (s.whileRunning_reaches _ (State.Works.deleteNext).reaches)⟩
  | releaseEnd => exact ⟨_, rfl, .run (s.whileRunning_reaches _ (State.Works.endDeletion).reaches)⟩
  | hardResetBegin =>
    refine ⟨_, rfl, ?_⟩
    dsimp only
    split
    · exact .reset .refl _ _ _ _ (by simp)
    all_goals exact .run (State.Works.tellPins _).reaches
  | powerUp => exact ⟨_, rfl, .reset .refl _ _ _ _ (by simp)⟩
  | hardResetEnd link plates dir att flush =>
    refine ⟨_, rfl, ?_⟩
    split
    · exact .run .refl
    next h => split <;> exact .reset .refl _ _ _ _ (by simp [h])
    next h => split <;> exact .reset .refl _ _ _ _ (by simp [h])
  | requestTooLong =>
    refine ⟨_, rfl, .run (s.whileRunning_reaches _ ?_)⟩
    split
    next h => exact (State.Links.failFrame _ (by simp [h])).reaches
    all_goals exact .refl
  | syncCountRestart =>
    refine ⟨_, rfl, .run (s.whileRunning_reaches _ ?_)⟩
    dsimp only
    split
    next h => exact (State.Links.restartCount h).reaches
    all_goals exact .refl
  | flushFall => exact ⟨_, rfl, .run (State.Works.tellPins _).reaches⟩
  | pwmPeriodStart => exact ⟨_, rfl, .run (s.whileRunning_reaches _ (State.Works.startPeriod).reaches)⟩

/-- What every effect keeps, and a delivery and a hard reset keep, every command keeps. -/
theorem exec_preserves {P : State → Prop} (hdoes : ∀ s t, s.Does t → P s → P t)
    (hdeliver : ∀ (a : Answer) dst code, a.state.link.iface = .request → P a.state → P (a.deliver dst code))
    (hreset : ∀ (s : State) phase p plates rec, P s → P (s.hardReset phase p plates rec)) {c : Instr} {s t : State}
    (h : exec c s = .next t) (hs : P s) : P t := by
  have hrun : ∀ u, s.Reaches u → P u := fun u hreach => by
    induction hreach with
    | refl => exact hs
    | tail _ hd ih => exact hdoes _ _ hd ih
  obtain ⟨u, hu, hcomes⟩ := exec_comes c s
  obtain rfl : u = t := Host.Outcome.next.inj (hu.symm.trans h)
  clear hu h
  cases hcomes with
  | run hreach => exact hrun _ hreach
  | deliver a dst code hreach hiface => exact hdeliver a dst code hiface (hrun _ hreach)
  | reset hreach phase p plates rec => exact hreset _ phase p plates rec (hrun _ hreach)

/-- What every command keeps, and the queue has no part in, every step keeps. -/
theorem step_preserves {P : State → Prop} (hdoes : ∀ s t, s.Does t → P s → P t)
    (hdeliver : ∀ (a : Answer) dst code, a.state.link.iface = .request → P a.state → P (a.deliver dst code))
    (hreset : ∀ (s : State) phase p plates rec, P s → P (s.hardReset phase p plates rec))
    (hqueue : ∀ (s : State) rest, P s → P { s with pending := rest }) {s t : State} (h : step s = .next t) (hs : P s) : P t := by
  unfold step at h
  split at h
  · exact Host.Outcome.next.inj h ▸ hs
  next c rest _ => exact exec_preserves hdoes hdeliver hreset h (hqueue s rest hs)

/-- A predicate on the film side alone: works keep it, and a hard reset gives it; the link interface, the pending answer, the latched flags and
the queue have no part in it. -/
theorem step_preserves_film {P : State → Prop} (hworks : ∀ s t, s.Works t → P s → P t)
    (hreset : ∀ (s : State) phase p plates rec, P s → P (s.hardReset phase p plates rec))
    (hlink : ∀ (s : State) l a sup rest, P s → P { s with link := l, answer := a, sup := sup, pending := rest }) {s t : State}
    (h : step s = .next t) (hs : P s) : P t := by
  refine step_preserves (fun u v hdoes hu => ?_) (fun a dst code _ ha => ?_) hreset
    (fun u rest hu => hlink u u.link u.answer u.sup rest hu) h hs
  · cases hdoes with
    | work hwork => exact hworks _ _ hwork hu
    | link hl =>
      obtain ⟨l, ans, sup, rfl⟩ := hl.relinks
      exact hlink u l ans sup u.pending hu
  · rw [a.deliver_eq_relink dst code]
    exact hlink a.state _ _ _ a.state.pending ha

end Sys2Proof.Machine

/-! O53: the directory. Every work changes the directory by a change of records in place that keeps entries and keys, by the deletion of one
record, or by the filing of one. -/

namespace Sys2Proof.Machine

/-! ## The directory as a whole -/

/-- A change of records in place that keeps their entries and keys keeps the directory consistent. -/
theorem Directory.consistent_map {d : Directory} (hd : d.consistent) (f : Record → Record) (hentry : ∀ r, (f r).entry = r.entry)
    (hkey : ∀ r, (f r).key = r.key) : ({ d with keyTable := d.keyTable.map f } : Directory).consistent := by
  obtain ⟨hfree, hocc, hsplit, hsorted⟩ := hd
  have hsame : ({ d with keyTable := d.keyTable.map f } : Directory).occupied = d.occupied := by
    simp [Directory.occupied, Function.comp_def, hentry]
  refine ⟨hfree, hsame ▸ hocc, fun e => hsame ▸ hsplit e, ?_⟩
  simpa [List.pairwise_map, hkey] using hsorted

theorem Directory.occupied_drop (d : Directory) (e : Entry) :
    (KeyTable.drop e d.keyTable).map (·.entry) = d.occupied.filter (fun x => decide (x ≠ e)) := by
  simp [KeyTable.drop, Directory.occupied, List.filter_map, Function.comp_def]

theorem KeyTable.file_perm (r : Record) (t : List Record) : (KeyTable.file r t).Perm (r :: t) := by
  induction t with
  | nil => exact .refl _
  | cons x rest ih =>
    unfold KeyTable.file
    split
    · exact .refl _
    · exact (List.Perm.cons x ih).trans (.swap r x rest)

/-- R26: the deletion of an occupied entry. -/
theorem State.dropEntry_consistent {s : State} (hd : s.dir.consistent) {e : Entry} (he : e ∈ s.dir.occupied) :
    (s.dropEntry e).dir.consistent := by
  obtain ⟨hfree, hocc, hsplit, hsorted⟩ := hd
  have hout : e ∉ s.dir.freeList := fun h => (hsplit e).mp h he
  have hleft : (s.dropEntry e).dir.occupied = s.dir.occupied.filter (fun x => decide (x ≠ e)) := s.dir.occupied_drop e
  refine ⟨List.nodup_append.mpr ⟨hfree, List.nodup_singleton e, ?_⟩, hleft ▸ hocc.filter _, fun x => ?_, KeyTable.drop_sorted e _ hsorted⟩
  · rintro a ha b hb rfl
    exact hout (List.mem_singleton.mp hb ▸ ha)
  · rw [hleft]
    by_cases hx : x = e <;> simp [State.dropEntry, hx, hsplit]

/-- R32: the head of the free list taken by a new record. -/
theorem Directory.consistent_place {d : Directory} (hd : d.consistent) {r : Record} {rest : List Entry} (hhead : d.freeList = r.entry :: rest) :
    ({ d with freeList := rest, keyTable := KeyTable.file r d.keyTable } : Directory).consistent := by
  obtain ⟨hfree, hocc, hsplit, hsorted⟩ := hd
  rw [hhead] at hfree hsplit
  obtain ⟨hnew, hrest⟩ := List.nodup_cons.mp hfree
  have hperm : ((KeyTable.file r d.keyTable).map (·.entry)).Perm (r.entry :: d.occupied) := (KeyTable.file_perm r d.keyTable).map _
  have hvacant : r.entry ∉ d.occupied := (hsplit _).mp (List.mem_cons_self ..)
  refine ⟨hrest, hperm.nodup_iff.mpr (List.nodup_cons.mpr ⟨hvacant, hocc⟩), fun e => ?_, KeyTable.file_sorted r _ hsorted⟩
  have he := hsplit e
  simp only [List.mem_cons] at he
  rw [show e ∈ Directory.occupied _ ↔ e ∈ r.entry :: d.occupied from hperm.mem_iff, List.mem_cons]
  by_cases heq : e = r.entry
  · simp [heq, hnew]
  · simp [heq, ← he]

/-- R28: a record filed anew with another key. -/
theorem State.refile_consistent {s : State} (hd : s.dir.consistent) {r : Record} (he : r.entry ∈ s.dir.occupied) :
    (s.refile r).dir.consistent := by
  obtain ⟨hfree, hocc, hsplit, hsorted⟩ := hd
  have hperm : ((KeyTable.file r (KeyTable.drop r.entry s.dir.keyTable)).map (·.entry)).Perm
      (r.entry :: s.dir.occupied.filter (fun x => decide (x ≠ r.entry))) :=
    s.dir.occupied_drop r.entry ▸ (KeyTable.file_perm r _).map _
  refine ⟨hfree, hperm.nodup_iff.mpr (List.nodup_cons.mpr ⟨by simp, hocc.filter _⟩), fun e => ?_,
    KeyTable.file_sorted r _ (KeyTable.drop_sorted r.entry _ hsorted)⟩
  rw [show e ∈ Directory.occupied (s.refile r).dir ↔ _ from hperm.mem_iff]
  have hsame : e ∈ (s.refile r).dir.freeList ↔ e ∉ s.dir.occupied := hsplit e
  by_cases heq : e = r.entry
  · subst heq; simp [hsame, he]
  · simp [heq, hsame]

theorem State.mem_occupied_of_mem {s : State} {r : Record} (hr : r ∈ s.dir.keyTable) : r.entry ∈ s.dir.occupied := List.mem_map_of_mem hr

theorem State.mem_occupied_of_resolve {s : State} {h : Handle} {r : Record} (hr : s.resolve h = some r) : r.entry ∈ s.dir.occupied :=
  State.mem_occupied_of_mem (s.resolve_some h r hr).1

theorem State.mapRecord_consistent {s : State} (hd : s.dir.consistent) (e : Entry) (f : Record → Record) (hentry : ∀ r, (f r).entry = r.entry)
    (hkey : ∀ r, (f r).key = r.key) : (s.mapRecord e f).dir.consistent :=
  Directory.consistent_map hd _ (fun r => by split <;> simp [hentry]) (fun r => by split <;> simp [hkey])

theorem Directory.reset_consistent : Directory.reset.consistent := by
  have hfree : Directory.reset.freeList = List.finRange 1024 := by simp only [Directory.reset]
  have hocc : Directory.reset.occupied = [] := rfl
  have htable : Directory.reset.keyTable = [] := rfl
  rw [Directory.consistent, hfree, hocc, htable]
  simp [List.nodup_finRange]

/-! ## What the operations do to the directory -/

@[simp] theorem State.mapMaster_dir_eq (s : State) (sl : Slot) (f : Master → Master) : (s.mapMaster sl f).dir = s.dir := rfl

@[simp] theorem State.setKeyTable_dir (s : State) (t : List Record) : (s.setKeyTable t).dir = { s.dir with keyTable := t } := rfl

/-- R26: a deletion outside a release deletion reaches the directory by the drop of its entry. -/
@[simp] theorem State.deleteRecord_dir (s : State) (r : Record) (c : Option CellState) :
    (s.deleteRecord r c).dir = (s.dropEntry r.entry).dir := by
  cases c <;> simp [State.deleteRecord]

theorem State.retireRecord_consistent {s : State} (hd : s.dir.consistent) {r : Record} (he : r.entry ∈ s.dir.occupied) :
    (s.retireRecord r).dir.consistent := by
  have hdrop := State.dropEntry_consistent hd he
  unfold State.retireRecord
  split
  · simpa using hdrop
  · simpa [State.dropEntry] using hdrop
  · simpa [State.dropEntry] using hdrop
  · exact State.mapRecord_consistent hd _ _ (fun _ => rfl) (fun _ => rfl)
  · simpa using State.mapRecord_consistent hd r.entry (fun r => { r with state := .withdrawn }) (fun _ => rfl) (fun _ => rfl)
  · exact hd
  · simpa using hdrop
  · simpa using hdrop

theorem State.releaseBinding_consistent {s : State} (hd : s.dir.consistent) (bd : Binding) : (s.releaseBinding bd).dir.consistent := by
  unfold State.releaseBinding
  split
  · split
    · exact State.mapRecord_consistent hd _ _ (fun _ => rfl) (fun _ => rfl)
    · exact hd
  · simpa using hd
  · exact hd

theorem State.bindOwner_consistent {s : State} (hd : s.dir.consistent) (id : BankId) (bd : Binding) : (s.bindOwner id bd).dir.consistent := by
  unfold State.bindOwner
  split
  · split
    · exact State.mapRecord_consistent hd _ _ (fun _ => rfl) (fun _ => rfl)
    · exact hd
  · simpa using hd
  · exact hd

@[simp] theorem State.bindHeader_dir (s : State) (id : BankId) (bd : Binding) (h : Header) :
    (s.bindHeader id bd h).dir = (s.bindOwner id bd).dir := rfl

theorem State.settleHeader_consistent {s : State} (hd : s.dir.consistent) (id : BankId) (h : Header) (v : Verdict) :
    (s.settleHeader id h v).dir.consistent := by
  cases v with
  | bind bd => exact State.bindOwner_consistent hd id bd
  | drain why => exact hd
  | discard why => exact hd

theorem State.streamGo_consistent {s : State} (hd : s.dir.consistent) : s.streamGo.dir.consistent := by
  have hheader : s.takeHeader.dir.consistent := by simpa using hd
  rw [State.streamGo, (State.consume_keeps _).2.2.2.2.2.2.2.1]
  rcases s.takeHeader.examineHeader_cases with heq | ⟨id, w0, w1, w2, w3, rest, _, _, _, heq⟩
  · rwa [heq]
  · rw [heq]
    exact State.settleHeader_consistent (s := { s.takeHeader with raster := { s.takeHeader.raster with fifo := rest } }) hheader _ _ _

theorem State.settleFill_consistent {s : State} (hd : s.dir.consistent) (f : Fill) : (s.settleFill f).dir.consistent := by
  unfold State.settleFill
  split
  · exact hd
  · split
    · split
      · split
        · exact State.mapRecord_consistent (s := s.loadBank f.bank) hd _ _ (fun _ => rfl) (fun _ => rfl)
        · exact hd
      all_goals exact hd
    · exact State.releaseBinding_consistent (s := s.freeBank f.bank) hd _

theorem State.abandonFill_consistent {s : State} (hd : s.dir.consistent) : s.abandonFill.dir.consistent := by
  unfold State.abandonFill
  split
  · split
    · exact State.releaseBinding_consistent (s := s.freeBank _) hd _
    · exact hd
  all_goals exact hd

theorem State.flushPort_consistent {s : State} (hd : s.dir.consistent) : s.flushPort.dir.consistent := by
  simpa [State.flushPort] using State.abandonFill_consistent hd

theorem State.takeRecord_consistent {s : State} (hd : s.dir.consistent) (kind : JobKind) (c : Bool) : (s.takeRecord kind c).dir.consistent := by
  unfold State.takeRecord
  split
  · split
    · exact State.mapRecord_consistent hd _ _ (fun _ => rfl) (fun _ => rfl)
    · exact hd
  all_goals exact hd

theorem State.takeJob_consistent {s : State} (hd : s.dir.consistent) : s.takeJob.dir.consistent := by
  rcases s.takeJob_cases with heq | ⟨id, rest, kind, sl, factor, f, _, _, _, _, _, heq⟩
  · rwa [heq]
  · rw [heq]
    exact State.takeRecord_consistent hd _ _

theorem State.writeOpenTime_consistent {s : State} (hd : s.dir.consistent) (j : Job) (n : Nat) : (s.writeOpenTime j n).dir.consistent := by
  unfold State.writeOpenTime
  split
  · split
    · split
      · exact State.mapRecord_consistent hd _ _ (fun _ => rfl) (fun _ => rfl)
      · exact hd
    · exact hd
  all_goals exact hd

theorem State.recordExposed_consistent {s : State} (hd : s.dir.consistent) (h : Handle) : (s.recordExposed h).dir.consistent := by
  unfold State.recordExposed
  split
  next r _ =>
    simpa using State.mapRecord_consistent hd r.entry
      (fun r => { r with state := if r.retirePending then .withdrawn else .exposed, retirePending := false, bank := none })
      (fun _ => rfl) (fun _ => rfl)
  · exact hd

theorem State.recordSpoiled_consistent {s : State} (hd : s.dir.consistent) (h : Handle) : (s.recordSpoiled h).dir.consistent := by
  unfold State.recordSpoiled
  split
  next r hr =>
    split
    · simpa using State.dropEntry_consistent hd (State.mem_occupied_of_resolve hr)
    · simpa using State.mapRecord_consistent hd r.entry (fun r => { r with state := .spoiled, bank := none }) (fun _ => rfl) (fun _ => rfl)
  · exact hd

theorem State.recordReturned_consistent {s : State} (hd : s.dir.consistent) (id : BankId) (h : Handle) :
    (s.recordReturned id h).dir.consistent := by
  unfold State.recordReturned
  split
  next r hr =>
    split
    · simpa [State.dropEntry] using State.dropEntry_consistent hd (State.mem_occupied_of_resolve hr)
    · exact State.mapRecord_consistent hd _ _ (fun _ => rfl) (fun _ => rfl)
  · exact hd

theorem State.ownersExposed_consistent {s : State} (hd : s.dir.consistent) (j : Job) : (s.ownersExposed j).dir.consistent := by
  unfold State.ownersExposed
  split
  · exact State.recordExposed_consistent hd _
  all_goals simpa using hd

theorem State.ownersSpoiled_consistent {s : State} (hd : s.dir.consistent) (j : Job) : (s.ownersSpoiled j).dir.consistent := by
  unfold State.ownersSpoiled
  split
  · exact State.recordSpoiled_consistent hd _
  all_goals simpa using hd

theorem State.ownersReturned_consistent {s : State} (hd : s.dir.consistent) (j : Job) : (s.ownersReturned j).dir.consistent := by
  unfold State.ownersReturned
  split
  · exact State.recordReturned_consistent hd _ _
  all_goals exact hd

theorem State.endExposed_consistent {s : State} (hd : s.dir.consistent) (j : Job) (n : Nat) : (s.endExposed j n).dir.consistent := by
  refine State.takeJob_consistent (State.streamGo_consistent (State.ownersExposed_consistent ?_ j))
  simpa using State.writeOpenTime_consistent hd j n

theorem State.endSpoiled_consistent {s : State} (hd : s.dir.consistent) (j : Job) (n : Nat) (p : PathState) (w : PathFault) :
    (s.endSpoiled j n p w).dir.consistent := by
  refine State.streamGo_consistent (State.ownersSpoiled_consistent ?_ j)
  simpa using State.writeOpenTime_consistent hd j n

theorem State.endReturned_consistent {s : State} (hd : s.dir.consistent) (j : Job) (n : Nat) (p : PathState) (w : PathFault) :
    (s.endReturned j n p w).dir.consistent := by
  refine State.streamGo_consistent (State.ownersReturned_consistent ?_ j)
  simpa using State.writeOpenTime_consistent hd j n

theorem State.endPreparing_consistent {s : State} (hd : s.dir.consistent) (j : Job) (p : PathState) (w : PathFault) :
    (s.endPreparing j p w).dir.consistent :=
  State.streamGo_consistent (State.ownersReturned_consistent (by simpa using hd) j)

theorem State.endRemoved_consistent {s : State} (hd : s.dir.consistent) (j : Job) : (s.endRemoved j).dir.consistent := by
  unfold State.endRemoved
  refine State.streamGo_consistent ?_
  split <;> simpa using hd

theorem State.tryOpen_consistent {s : State} (hd : s.dir.consistent) : s.tryOpen.dir.consistent := by
  unfold State.tryOpen
  split
  · split
    · split
      · exact State.endRemoved_consistent hd _
      · exact hd
    · exact hd
  · exact hd

theorem State.preparationFault_consistent {s : State} (hd : s.dir.consistent) (w : PathFault) : (s.preparationFault w).dir.consistent := by
  unfold State.preparationFault
  split
  · split
    · exact State.endRemoved_consistent hd _
    · exact State.endPreparing_consistent hd _ _ _
  · exact hd

theorem State.removeLivePlate_consistent {s : State} (hd : s.dir.consistent) (sl : Slot) : (s.removeLivePlate sl).dir.consistent := by
  have hsame : (s.releaseBanksOf sl).dir.consistent := by simpa using hd
  exact Directory.consistent_map hsame _ (fun r => by split <;> rfl) (fun r => by split <;> rfl)

theorem State.enterReleasing_consistent {s : State} (hd : s.dir.consistent) (sl : Slot) : (s.enterReleasing sl).dir.consistent := by
  have h := Directory.consistent_map hd (fun r => if r.slot = sl then { r with bank := none } else r) (fun r => by split <;> rfl)
    (fun r => by split <;> rfl)
  simpa [State.enterReleasing] using h

theorem State.settlePlate_consistent {s : State} (hd : s.dir.consistent) (sl : Slot) : (s.settlePlate sl).dir.consistent := by
  unfold State.settlePlate
  dsimp only
  split
  · exact hd
  · split
    · exact hd
    · split
      · unfold State.plateInserted
        split <;> exact hd
      · unfold State.plateRemoved
        split
        case h_3 | h_4 | h_5 | h_6 | h_7 => exact State.streamGo_consistent (State.removeLivePlate_consistent (by exact hd) sl)
        case h_8 => exact State.streamGo_consistent (State.enterReleasing_consistent (by exact hd) sl)
        all_goals exact hd

theorem State.mem_occupied_of_recordsOf {s : State} {sl : Slot} {r : Record} (hr : r ∈ s.recordsOf sl) : r.entry ∈ s.dir.occupied :=
  State.mem_occupied_of_mem (List.mem_of_mem_filter hr)

theorem State.deleteNext_consistent {s : State} (hd : s.dir.consistent) : s.deleteNext.dir.consistent := by
  unfold State.deleteNext
  split
  · exact hd
  · split
    · exact hd
    · split
      · exact hd
      next r hrec => exact State.dropEntry_consistent hd (State.mem_occupied_of_recordsOf (hrec ▸ List.mem_cons_self ..))
      next r more _ hrec => exact State.dropEntry_consistent hd (State.mem_occupied_of_recordsOf (hrec ▸ List.mem_cons_self ..))

theorem State.endDeletion_consistent {s : State} (hd : s.dir.consistent) : s.endDeletion.dir.consistent := by
  unfold State.endDeletion
  split
  · exact hd
  · split
    · exact hd
    · split
      · exact hd
      next r hrec => exact State.dropEntry_consistent hd (State.mem_occupied_of_recordsOf (hrec ▸ List.mem_cons_self ..))
      · exact hd

theorem State.pulse_consistent {s : State} (hd : s.dir.consistent) (n : Nat) : (s.pulse n).dir.consistent := by
  unfold State.pulse
  split
  · split
    · unfold State.reachTarget
      dsimp only
      split
      · exact State.endRemoved_consistent (by exact hd) _
      · exact State.endExposed_consistent (by exact hd) _ _
    · exact hd
  · exact hd

/-- Every work keeps the directory. -/
theorem State.Works.keeps_directory {s t : State} (h : s.Works t) (hd : s.dir.consistent) : t.dir.consistent := by
  cases h with
  | settlePlate => exact State.settlePlate_consistent hd _
  | deleteNext => exact State.deleteNext_consistent hd
  | endDeletion => exact State.endDeletion_consistent hd
  | release => exact State.streamGo_consistent (State.enterReleasing_consistent hd _)
  | place k c sl cell e rest src _ _ hentry =>
    have h := Directory.consistent_place hd (r := placedRecord e k c sl cell src) hentry
    simpa [State.placeRecord] using h
  | rekeyWithin h r k hr =>
    have h := State.refile_consistent hd (r := { r with key := k }) (State.mem_occupied_of_resolve (r := r) hr)
    unfold State.rekeyWithin
    split
    · exact hd
    · exact h
  | rekeyMove h r k sl cell hr =>
    have h := State.refile_consistent hd (r := { r with key := k, slot := sl, cell := cell }) (State.mem_occupied_of_resolve (r := r) hr)
    simpa [State.rekeyMove] using h
  | setClass => exact State.mapRecord_consistent hd _ _ (fun _ => rfl) (fun _ => rfl)
  | retire h r hr => exact State.streamGo_consistent (State.retireRecord_consistent hd (State.mem_occupied_of_resolve hr))
  | replace h r cell =>
    have h := State.mapRecord_consistent hd r.entry
      (fun r => { r with state := .awaiting, cell := cell, openTime := none, clamped := none }) (fun _ => rfl) (fun _ => rfl)
    simpa [State.replaceRecord] using h
  | takeWord => exact State.streamGo_consistent (by exact hd)
  | stream => exact State.streamGo_consistent hd
  | endFill => exact State.streamGo_consistent (State.settleFill_consistent (by exact hd) _)
  | endDrain => exact State.streamGo_consistent (by exact hd)
  | flushPort => exact State.flushPort_consistent hd
  | takeJob => exact State.takeJob_consistent hd
  | panelReady =>
    unfold State.reportPanelReady
    split
    · exact State.tryOpen_consistent (by exact hd)
    · exact hd
  | arrive =>
    unfold State.reportArrived
    split
    · exact State.tryOpen_consistent (by exact hd)
    · exact hd
  | failMove => exact State.preparationFault_consistent (by exact hd) _
  | preparationFault => exact State.preparationFault_consistent hd _
  | tryOpen => exact State.tryOpen_consistent hd
  | pulse => exact State.pulse_consistent hd _
  | endGate => exact State.tryOpen_consistent (by exact hd)
  | endRemoved => exact State.endRemoved_consistent hd _
  | haltPreparing => exact State.endPreparing_consistent hd _ _ _
  | endSpoiled => exact State.endSpoiled_consistent hd _ _ _ _
  | endReturned => exact State.endReturned_consistent hd _ _ _ _
  | setLamp => unfold State.setLamp; split <;> exact hd
  | haltPath => unfold State.haltPath; split <;> exact hd
  | closeMaster => simpa using hd
  | turnOutbound => simpa using hd
  | turnInbound => simpa using hd
  | beginListing => simpa using hd
  | sendHighHalf => simpa using hd
  | tellPins | tellPlate | dropReport | openMaster | queueListing | resume | awaitGate | startGate | setTables | startPeriod
  | takeLowHalf | sendLowHalf | showStrobe | goMove | endMotionDrain | haltIdle => exact hd

/-- Settles O53: every work keeps the directory, so every command does. -/
theorem stepKeepsTheDirectory : Obligations.StepKeepsTheDirectory :=
  fun _ _ hs h => step_preserves_film (P := fun s => s.dir.consistent) (fun _ _ hworks hd => hworks.keeps_directory hd)
    (fun _ _ _ _ _ _ => Directory.reset_consistent) (fun _ _ _ _ _ hd => hd) h hs

end Sys2Proof.Machine

/-! O54: the Master Table. Every work changes a master in a way that its state, fields, failure reason, plate and place in the release queue
allow. -/

namespace Sys2Proof.Machine

/-! ## One master read after a change of one master -/

@[simp] theorem State.setMaster_master_same (s : State) (sl : Slot) (m : Master) : (s.setMaster sl m).master sl = m := by
  simp [State.setMaster, State.master]

@[simp] theorem State.setMaster_master_ne (s : State) {sl o : Slot} (h : o ≠ sl) (m : Master) : (s.setMaster sl m).master o = s.master o := by
  simp [State.setMaster, State.master, Fin.val_ne_of_ne h.symm]

@[simp] theorem State.mapMaster_master_same (s : State) (sl : Slot) (f : Master → Master) : (s.mapMaster sl f).master sl = f (s.master sl) :=
  s.setMaster_master_same sl _

@[simp] theorem State.mapMaster_master_ne (s : State) {sl o : Slot} (h : o ≠ sl) (f : Master → Master) :
    (s.mapMaster sl f).master o = s.master o := s.setMaster_master_ne h _

/-! ## One master as it must be -/

/-- A master as it must be beside its plate and the release queue (R2, R3, R17). -/
def Master.sound (m : Master) (present : Bool) (queued : Prop) : Prop :=
  m.fields.isSome = m.state.hasFields ∧ (∀ f ∈ m.fields, f.cells.length = f.format.cellCount) ∧
  (m.state = .failed → m.failure.isSome = true) ∧ (m.failure.isSome = true → m.state = .failed ∨ m.state = .releasing) ∧
  m.state.fitsPlate present = true ∧ (m.state = .releasing ↔ queued)

theorem State.masterConsistent_iff (s : State) (sl : Slot) :
    s.masterConsistent sl ↔ (s.master sl).sound (s.platePresent sl) (sl ∈ s.releaseQueue) := Iff.rfl

/-- A change of one master that keeps it as it must be. -/
theorem State.setMaster_sound {s : State} (hs : s.mastersConsistent) (sl : Slot) {m : Master}
    (hm : ∀ present queued, (s.master sl).sound present queued → m.sound present queued) : (s.setMaster sl m).mastersConsistent := by
  refine ⟨hs.1, fun o => ?_⟩
  by_cases ho : o = sl
  · subst ho
    rw [State.masterConsistent_iff, State.setMaster_master_same]
    exact hm _ _ (hs.2 o)
  · rw [State.masterConsistent_iff, s.setMaster_master_ne ho]
    exact hs.2 o

theorem State.mapMaster_sound {s : State} (hs : s.mastersConsistent) (sl : Slot) {f : Master → Master}
    (hf : ∀ present queued, (s.master sl).sound present queued → (f (s.master sl)).sound present queued) : (s.mapMaster sl f).mastersConsistent :=
  State.setMaster_sound hs sl hf

/-- A change of the master fields that keeps the format and the number of cells. -/
theorem Master.sound.mapFields {m : Master} {present : Bool} {queued : Prop} (hm : m.sound present queued) {f : MasterFields → MasterFields}
    (hf : ∀ x, (f x).format = x.format ∧ (f x).cells.length = x.cells.length) : (m.mapFields f).sound present queued := by
  obtain ⟨hfields, hcells, hrest⟩ := hm
  refine ⟨by simpa [Master.mapFields] using hfields, fun y hy => ?_, hrest⟩
  obtain ⟨x, hx, rfl⟩ := Option.map_eq_some_iff.mp hy
  rw [(hf x).1, (hf x).2]
  exact hcells x hx

/-- A change of state among those with master fields, the plate present and no failure. -/
theorem Master.sound.withState {m : Master} {present : Bool} {queued : Prop} (hm : m.sound present queued) {st : MasterState}
    (hfrom : m.state.live = true) (hto : st.live = true ∨ st = .finished) : ({ m with state := st } : Master).sound present queued := by
  obtain ⟨hfields, hcells, -, hreason, hplate, hqueue⟩ := hm
  have hnone : m.failure.isSome = false := by
    by_contra h
    rcases hreason (by simpa only [Bool.not_eq_false] using h) with h | h <;> simp [h, MasterState.live] at hfrom
  cases hst : m.state <;> simp only [hst, MasterState.live, Bool.false_eq_true] at hfrom <;>
    cases st <;> simp only [MasterState.live, Bool.false_eq_true, reduceCtorEq, or_false, or_true] at hto <;>
    simp_all [Master.sound, MasterState.hasFields, MasterState.fitsPlate]

/-! ## What the operations on masters keep -/

theorem State.markCell_sound {s : State} (hs : s.mastersConsistent) (sl : Slot) (n : Nat) (c : CellState) : (s.markCell sl n c).mastersConsistent := by
  unfold State.markCell
  split
  · exact State.mapMaster_sound hs sl (fun _ _ hm => hm.mapFields (fun x => ⟨rfl, List.length_set ..⟩))
  · exact hs

theorem State.advance_sound {s : State} (hs : s.mastersConsistent) (sl : Slot) : (s.advance sl).mastersConsistent :=
  State.mapMaster_sound hs sl (fun _ _ hm => hm)

theorem State.settleTest_sound {s : State} (hs : s.mastersConsistent) (sl : Slot) : (s.settleTest sl).mastersConsistent := by
  rcases s.settleTest_cases sl with heq | ⟨hclosing, _, heq⟩
  · rwa [heq]
  · rw [heq]
    exact State.mapMaster_sound hs sl (fun _ _ hm => hm.withState (by simp [hclosing, MasterState.live]) (.inl rfl))

theorem State.bindIndex_sound {s : State} (hs : s.mastersConsistent) (sl : Slot) : (s.bindIndex sl).mastersConsistent := by
  refine State.mapMaster_sound hs sl (fun _ _ hm => ?_)
  have hfields := hm.mapFields (f := fun f => { f with indexBindings := f.indexBindings + 1 }) (fun x => ⟨rfl, rfl⟩)
  split
  next hst => exact hfields.withState (by simp [Master.mapFields, hst, MasterState.live]) (.inl rfl)
  · exact hfields

theorem State.unbindIndex_sound {s : State} (hs : s.mastersConsistent) (sl : Slot) : (s.unbindIndex sl).mastersConsistent := by
  refine State.mapMaster_sound hs sl (fun _ _ hm => ?_)
  have hfields := hm.mapFields (f := fun f => { f with indexBindings := f.indexBindings - 1 }) (fun x => ⟨rfl, rfl⟩)
  dsimp only
  split
  next hst => exact hfields.withState (by simp [Master.mapFields, hst.1, MasterState.live]) (.inl rfl)
  · exact hfields

theorem State.exposeIndex_sound {s : State} (hs : s.mastersConsistent) (sl : Slot) (part : Nat) : (s.exposeIndex sl part).mastersConsistent := by
  refine State.mapMaster_sound hs sl (fun _ _ hm => ?_)
  have hfields := hm.mapFields (f := fun f => 
    { f with
      cells := f.cells.set (f.format.indexCell part) .exposedIndex
      indexBindings := f.indexBindings - 1
      partsExposed := f.partsExposed + 1 }) (fun x => ⟨rfl, List.length_set ..⟩)
  dsimp only
  split
  next hst => exact hfields.withState (by simp [Master.mapFields, hst.1, MasterState.live]) (.inl rfl)
  · exact hfields

theorem State.exposeTitle_sound {s : State} (hs : s.mastersConsistent) (sl : Slot) : (s.exposeTitle sl).mastersConsistent := by
  refine State.mapMaster_sound hs sl (fun _ _ hm => ?_)
  split
  next hst => exact hm.withState (by simp [hst, MasterState.live]) (.inr rfl)
  · exact hm

theorem State.failMaster_sound {s : State} (hs : s.mastersConsistent) (sl : Slot) (why : FailureReason) (hlive : (s.master sl).state.live = true) :
    (s.failMaster sl why).mastersConsistent := by
  refine State.mapMaster_sound hs sl (fun _ _ hm => ?_)
  obtain ⟨hfields, hcells, -, -, hplate, hqueue⟩ :=
    hm.mapFields (f := fun f => { f with indexBindings := 0 }) (fun x => ⟨rfl, rfl⟩)
  have hst : (s.master sl).state.hasFields = true ∧ (s.master sl).state ≠ .releasing := by
    revert hlive; cases (s.master sl).state <;> simp [MasterState.live, MasterState.hasFields]
  refine ⟨hfields.trans hst.1, hcells, fun _ => rfl, fun _ => .inl rfl, rfl, iff_of_false (by simp) (fun hq => hst.2 (hqueue.mpr hq))⟩

theorem State.releaseBanksOf_sound {s : State} (hs : s.mastersConsistent) (sl : Slot) : (s.releaseBanksOf sl).mastersConsistent := by
  simpa [State.mastersConsistent, State.masterConsistent, State.master, State.platePresent] using hs

theorem State.releaseRecordBanks_sound {s : State} (hs : s.mastersConsistent) (h : Handle) : (s.releaseRecordBanks h).mastersConsistent := by
  simpa [State.mastersConsistent, State.masterConsistent, State.master, State.platePresent] using hs

theorem State.deleteRecord_sound {s : State} (hs : s.mastersConsistent) (r : Record) (c : Option CellState) :
    (s.deleteRecord r c).mastersConsistent := by
  have hdrop : (s.dropEntry r.entry).mastersConsistent := hs
  cases c with
  | none => exact State.settleTest_sound (State.advance_sound hdrop _) _
  | some c => exact State.settleTest_sound (State.advance_sound (State.markCell_sound hdrop _ _ _) _) _

theorem State.retireRecord_sound {s : State} (hs : s.mastersConsistent) (r : Record) : (s.retireRecord r).mastersConsistent := by
  have hfree : ∀ h, (s.releaseRecordBanks h).mastersConsistent := State.releaseRecordBanks_sound hs
  unfold State.retireRecord
  split
  · exact State.deleteRecord_sound hs _ _
  · exact State.deleteRecord_sound (hfree _) _ _
  · exact State.deleteRecord_sound (hfree _) _ _
  · exact hs
  · exact State.settleTest_sound (State.advance_sound (by exact hs) _) _
  · exact hs
  · exact State.deleteRecord_sound hs _ _
  · exact State.deleteRecord_sound hs _ _

theorem State.releaseBinding_sound {s : State} (hs : s.mastersConsistent) (bd : Binding) : (s.releaseBinding bd).mastersConsistent := by
  unfold State.releaseBinding
  split
  · split <;> exact hs
  · exact State.unbindIndex_sound hs _
  · exact hs

theorem State.bindOwner_sound {s : State} (hs : s.mastersConsistent) (id : BankId) (bd : Binding) : (s.bindOwner id bd).mastersConsistent := by
  unfold State.bindOwner
  split
  · split <;> exact hs
  · exact State.bindIndex_sound hs _
  · exact hs

theorem State.settleHeader_sound {s : State} (hs : s.mastersConsistent) (id : BankId) (h : Header) (v : Verdict) :
    (s.settleHeader id h v).mastersConsistent := by
  cases v with
  | bind bd => exact State.bindOwner_sound hs id bd
  | drain why => exact hs
  | discard why => exact hs

theorem State.streamGo_sound {s : State} (hs : s.mastersConsistent) : s.streamGo.mastersConsistent := by
  have hheader : s.takeHeader.mastersConsistent := by
    simpa [State.mastersConsistent, State.masterConsistent, State.master, State.platePresent] using hs
  have hexam : s.takeHeader.examineHeader.mastersConsistent := by
    rcases s.takeHeader.examineHeader_cases with heq | ⟨id, w0, w1, w2, w3, rest, _, _, _, heq⟩
    · rwa [heq]
    · rw [heq]
      exact State.settleHeader_sound (s := { s.takeHeader with raster := { s.takeHeader.raster with fifo := rest } }) hheader _ _ _
  simpa [State.streamGo, State.mastersConsistent, State.masterConsistent, State.master, State.platePresent] using hexam

theorem State.settleFill_sound {s : State} (hs : s.mastersConsistent) (f : Fill) : (s.settleFill f).mastersConsistent := by
  unfold State.settleFill
  split
  · exact hs
  · split
    · split
      · split <;> exact hs
      all_goals exact hs
    · exact State.releaseBinding_sound (s := s.freeBank f.bank) hs _

theorem State.abandonFill_sound {s : State} (hs : s.mastersConsistent) : s.abandonFill.mastersConsistent := by
  unfold State.abandonFill
  split
  · split
    · exact State.releaseBinding_sound (s := s.freeBank _) hs _
    · exact hs
  all_goals exact hs

/-! The frame of the operations that do not reach the Master Table, as the lemmas of the State laws give it. -/

theorem State.mastersConsistent_congr {s t : State} (hm : t.masters = s.masters) (hp : t.plates = s.plates)
    (hq : t.releaseQueue = s.releaseQueue) (hs : s.mastersConsistent) : t.mastersConsistent := by
  simpa [State.mastersConsistent, State.masterConsistent, State.master, State.platePresent, hm, hp, hq] using hs

theorem State.takeJob_sound {s : State} (hs : s.mastersConsistent) : s.takeJob.mastersConsistent :=
  State.mastersConsistent_congr (by simp) (by simp) (by simp) hs

theorem State.recordExposed_sound {s : State} (hs : s.mastersConsistent) (h : Handle) : (s.recordExposed h).mastersConsistent := by
  unfold State.recordExposed
  split
  · exact State.settleTest_sound (State.advance_sound (State.markCell_sound (by exact hs) _ _ _) _) _
  · exact hs

theorem State.recordSpoiled_sound {s : State} (hs : s.mastersConsistent) (h : Handle) : (s.recordSpoiled h).mastersConsistent := by
  unfold State.recordSpoiled
  split
  · split
    · exact State.deleteRecord_sound hs _ _
    · exact State.settleTest_sound (State.advance_sound (State.markCell_sound (by exact hs) _ _ _) _) _
  · exact hs

theorem State.recordReturned_sound {s : State} (hs : s.mastersConsistent) (id : BankId) (h : Handle) :
    (s.recordReturned id h).mastersConsistent := by
  unfold State.recordReturned
  split
  · split
    · exact State.deleteRecord_sound (by exact hs) _ _
    · exact hs
  · exact hs

theorem State.spoilMaster_sound {s : State} (hs : s.mastersConsistent) (sl : Slot) (why : FailureReason) :
    (s.spoilMaster sl why).mastersConsistent := by
  unfold State.spoilMaster
  split
  next hlive => exact State.failMaster_sound (State.releaseBanksOf_sound hs sl) sl why (by simpa [State.master] using hlive)
  · exact hs

theorem State.ownersExposed_sound {s : State} (hs : s.mastersConsistent) (j : Job) : (s.ownersExposed j).mastersConsistent := by
  unfold State.ownersExposed
  split
  · exact State.recordExposed_sound hs _
  · exact State.exposeIndex_sound hs _ _
  · exact State.exposeTitle_sound hs _

theorem State.ownersSpoiled_sound {s : State} (hs : s.mastersConsistent) (j : Job) : (s.ownersSpoiled j).mastersConsistent := by
  unfold State.ownersSpoiled
  split
  · exact State.recordSpoiled_sound hs _
  · exact State.spoilMaster_sound (State.markCell_sound hs _ _ _) _ _
  · exact State.spoilMaster_sound hs _ _

theorem State.ownersReturned_sound {s : State} (hs : s.mastersConsistent) (j : Job) : (s.ownersReturned j).mastersConsistent := by
  unfold State.ownersReturned
  split
  · exact State.recordReturned_sound hs _ _
  all_goals exact hs

theorem State.endExposed_sound {s : State} (hs : s.mastersConsistent) (j : Job) (n : Nat) : (s.endExposed j n).mastersConsistent :=
  State.takeJob_sound (State.streamGo_sound (State.ownersExposed_sound (State.mastersConsistent_congr (by simp) (by simp) (by simp) hs) j))

theorem State.endSpoiled_sound {s : State} (hs : s.mastersConsistent) (j : Job) (n : Nat) (p : PathState) (w : PathFault) :
    (s.endSpoiled j n p w).mastersConsistent :=
  State.streamGo_sound (State.ownersSpoiled_sound (State.mastersConsistent_congr (by simp) (by simp) (by simp) hs) j)

theorem State.endReturned_sound {s : State} (hs : s.mastersConsistent) (j : Job) (n : Nat) (p : PathState) (w : PathFault) :
    (s.endReturned j n p w).mastersConsistent :=
  State.streamGo_sound (State.ownersReturned_sound (State.mastersConsistent_congr (by simp) (by simp) (by simp) hs) j)

theorem State.endPreparing_sound {s : State} (hs : s.mastersConsistent) (j : Job) (p : PathState) (w : PathFault) :
    (s.endPreparing j p w).mastersConsistent :=
  State.streamGo_sound (State.ownersReturned_sound (State.mastersConsistent_congr (by simp) (by simp) (by simp) hs) j)

theorem State.endRemoved_sound {s : State} (hs : s.mastersConsistent) (j : Job) : (s.endRemoved j).mastersConsistent := by
  unfold State.endRemoved
  refine State.streamGo_sound (State.mastersConsistent_congr ?_ ?_ ?_ hs) <;> split <;> simp

theorem State.tryOpen_sound {s : State} (hs : s.mastersConsistent) : s.tryOpen.mastersConsistent := by
  unfold State.tryOpen
  split
  · split
    · split
      · exact State.endRemoved_sound hs _
      · exact hs
    · exact hs
  · exact hs

theorem State.preparationFault_sound {s : State} (hs : s.mastersConsistent) (w : PathFault) : (s.preparationFault w).mastersConsistent := by
  unfold State.preparationFault
  split
  · split
    · exact State.endRemoved_sound hs _
    · exact State.endPreparing_sound hs _ _ _
  · exact hs

theorem State.pulse_sound {s : State} (hs : s.mastersConsistent) (n : Nat) : (s.pulse n).mastersConsistent := by
  unfold State.pulse
  split
  · split
    · unfold State.reachTarget
      dsimp only
      split
      · exact State.endRemoved_sound (by exact hs) _
      · exact State.endExposed_sound (by exact hs) _ _
    · exact hs
  · exact hs

/-! ## Plates, release and opening -/

/-- A plate filter and a master changed together. -/
theorem State.mastersConsistent_of_slot {s t : State} (hs : s.mastersConsistent) (sl : Slot)
    (hmasters : ∀ o, o ≠ sl → t.master o = s.master o) (hplates : ∀ o, o ≠ sl → t.platePresent o = s.platePresent o)
    (hqueue : ∀ o, o ≠ sl → (o ∈ t.releaseQueue ↔ o ∈ s.releaseQueue)) (hnodup : t.releaseQueue.Nodup)
    (hslot : t.masterConsistent sl) : t.mastersConsistent := by
  refine ⟨hnodup, fun o => ?_⟩
  by_cases ho : o = sl
  · exact ho ▸ hslot
  · rw [State.masterConsistent_iff, hmasters o ho, hplates o ho, propext (hqueue o ho)]
    exact hs.2 o

@[simp] theorem State.setPlate_platePresent_same (s : State) (sl : Slot) (p : PlateFilter) : (s.setPlate sl p).platePresent sl = p.debounced := by
  simp [State.setPlate, State.platePresent]

@[simp] theorem State.setPlate_platePresent_ne (s : State) {sl o : Slot} (h : o ≠ sl) (p : PlateFilter) :
    (s.setPlate sl p).platePresent o = s.platePresent o := by
  simp [State.setPlate, State.platePresent, Fin.val_ne_of_ne h.symm]

/-- A filter whose debounced state stays. -/
theorem State.setPlate_sound {s : State} (hs : s.mastersConsistent) (sl : Slot) {p : PlateFilter} (hp : p.debounced = s.platePresent sl) :
    (s.setPlate sl p).mastersConsistent := by
  refine State.mastersConsistent_of_slot hs sl (fun _ _ => rfl) (fun o ho => s.setPlate_platePresent_ne ho p) (fun _ _ => Iff.rfl) hs.1 ?_
  rw [State.masterConsistent_iff, State.setPlate_platePresent_same, hp]
  exact hs.2 sl

/-- R7, R17: entry to RELEASING, whatever the plate. -/
theorem State.enterReleasing_sound {s t : State} (hs : s.mastersConsistent) (sl : Slot) (hst : (s.master sl).state.releasable = true)
    (hmasters : t.masters = s.masters) (hqueue : t.releaseQueue = s.releaseQueue) (hplates : ∀ o, o ≠ sl → t.platePresent o = s.platePresent o) :
    (t.enterReleasing sl).mastersConsistent := by
  obtain ⟨hfields, hcells, -, -, -, hq⟩ := hs.2 sl
  have hstate : (s.master sl).state.hasFields = true ∧ (s.master sl).state ≠ .releasing := by
    revert hst; cases (s.master sl).state <;> simp [MasterState.releasable, MasterState.hasFields]
  have hout : sl ∉ s.releaseQueue := fun h => hstate.2 (hq.mpr h)
  have hmaster : ∀ o, (t.enterReleasing sl).master o =
      (s.mapMaster sl (fun m => { m.mapFields (fun f => { f with indexBindings := 0 }) with state := .releasing })).master o := by
    simp [State.enterReleasing, State.master, State.mapMaster, State.setMaster, hmasters]
  have hqueue' : (t.enterReleasing sl).releaseQueue = s.releaseQueue ++ [sl] := by simp [State.enterReleasing, hqueue]
  refine State.mastersConsistent_of_slot hs sl (fun o ho => by rw [hmaster, s.mapMaster_master_ne ho]) (fun o ho => ?_) (fun o ho => ?_) ?_ ?_
  · rw [← hplates o ho]; simp [State.platePresent]
  · simp [hqueue', ho]
  · rw [hqueue']
    exact List.nodup_append.mpr ⟨hs.1, List.nodup_singleton sl, fun a ha b hb hab => hout (List.mem_singleton.mp hb ▸ hab ▸ ha)⟩
  · rw [State.masterConsistent_iff, hmaster, State.mapMaster_master_same, hqueue']
    refine ⟨?_, fun f hf => ?_, by simp, by simp, rfl, by simp⟩
    · exact Option.isSome_map.trans (hfields.trans hstate.1)
    · obtain ⟨x, hx, rfl⟩ := Option.map_eq_some_iff.mp hf
      exact hcells x hx

/-- R6: the plate of a live master removed. -/
theorem State.removeLivePlate_sound {s t : State} (hs : s.mastersConsistent) (sl : Slot) (hlive : (s.master sl).state.live = true)
    (hmasters : t.masters = s.masters) (hqueue : t.releaseQueue = s.releaseQueue) (hplates : ∀ o, o ≠ sl → t.platePresent o = s.platePresent o) :
    (t.removeLivePlate sl).mastersConsistent := by
  have hfail := State.failMaster_sound hs sl .plateRemoved hlive
  have hmaster : ∀ o, (t.removeLivePlate sl).master o = (s.failMaster sl .plateRemoved).master o := by
    simp [State.removeLivePlate, State.failMaster, State.master, State.mapMaster, State.setMaster, hmasters]
  have hqueue' : (t.removeLivePlate sl).releaseQueue = s.releaseQueue := by simp [hqueue]
  refine State.mastersConsistent_of_slot hfail sl (fun o _ => hmaster o) (fun o ho => ?_) (fun o _ => by rw [hqueue']; rfl)
    (by rw [hqueue']; exact hs.1) ?_
  · exact Eq.trans (by simp [State.platePresent]) (hplates o ho)
  · obtain ⟨hfields, hcells, hfailed, hreason, -, hq⟩ := hfail.2 sl
    refine ⟨hmaster sl ▸ hfields, hmaster sl ▸ hcells, hmaster sl ▸ hfailed, hmaster sl ▸ hreason, ?_, ?_⟩
    · rw [hmaster, State.failMaster, State.mapMaster_master_same]; rfl
    · rw [hmaster, hqueue']; exact hq

theorem State.settlePlate_sound {s : State} (hs : s.mastersConsistent) (sl : Slot) : (s.settlePlate sl).mastersConsistent := by
  unfold State.settlePlate
  dsimp only
  split
  · exact hs
  · split
    · exact State.setPlate_sound hs sl rfl
    next hchange =>
      have hflip : s.platePresent sl = !s.plates[sl].raw := by
        cases hraw : s.plates[sl].raw <;> cases hdeb : s.plates[sl].debounced <;> simp_all [State.platePresent]
      have hslot := hs.2 sl
      -- the new filter with the master changed as the event wants it
      have hset : ∀ (p : PlateFilter) (m : Master), m.sound p.debounced (sl ∈ s.releaseQueue) →
          ((s.setPlate sl p).setMaster sl m).mastersConsistent := fun p m hm =>
        State.mastersConsistent_of_slot hs sl (fun o ho => (s.setPlate sl p).setMaster_master_ne ho m)
          (fun o ho => s.setPlate_platePresent_ne ho p) (fun _ _ => Iff.rfl) hs.1 (by
            rw [State.masterConsistent_iff, State.setMaster_master_same]
            exact (s.setPlate_platePresent_same sl p).symm ▸ hm)
      have hkeep : ∀ p : PlateFilter, (s.master sl).state.fitsPlate p.debounced = true → (s.setPlate sl p).mastersConsistent := by
        refine fun p hp => State.mastersConsistent_of_slot hs sl (fun _ _ => rfl) (fun o ho => s.setPlate_platePresent_ne ho p)
          (fun _ _ => Iff.rfl) hs.1 ?_
        obtain ⟨h1, h2, h3, h4, -, h6⟩ := hslot
        rw [State.masterConsistent_iff, State.setPlate_platePresent_same]
        exact ⟨h1, h2, h3, h4, hp, h6⟩
      have hothers : ∀ (p : PlateFilter) (o : Slot), o ≠ sl → (s.setPlate sl p).platePresent o = s.platePresent o :=
        fun p o ho => s.setPlate_platePresent_ne ho p
      obtain ⟨hfields, hcells, hfailed, hreason, hplate, hqueue⟩ := hslot
      rw [hflip] at hplate
      split
      next hraw =>
        unfold State.plateInserted
        split
        next hst =>
          refine hset _ _ ?_
          have hst : (s.master sl).state = .empty := hst
          rw [hst] at hfields hreason hqueue
          exact ⟨hfields, hcells, by simp, by simpa using hreason, hraw, by simpa using hqueue⟩
        all_goals
          next hst =>
            have hst : (s.master sl).state = _ := hst
            exact hkeep _ (by simp_all [MasterState.fitsPlate])
      next hraw =>
        unfold State.plateRemoved
        split
        case h_1 | h_2 =>
          next hst =>
            have hst : (s.master sl).state = _ := hst
            refine hset _ _ ?_
            rw [hst] at hfields hreason hqueue
            exact ⟨hfields, hcells, by simp, by simpa using hreason, by simpa [MasterState.fitsPlate] using hraw, by simpa using hqueue⟩
        case h_3 | h_4 | h_5 | h_6 | h_7 =>
          next hst =>
            have hst : (s.master sl).state = _ := hst
            exact State.streamGo_sound
              (State.removeLivePlate_sound hs sl (by simp [hst, MasterState.live]) rfl rfl (fun o ho => hothers _ o ho))
        case h_8 =>
          next hst =>
            have hst : (s.master sl).state = _ := hst
            exact State.streamGo_sound
              (State.enterReleasing_sound hs sl (by simp [hst, MasterState.releasable]) rfl rfl (fun o ho => hothers _ o ho))
        all_goals
          next hst =>
            have hst : (s.master sl).state = _ := hst
            exact hkeep _ (by simp_all [MasterState.fitsPlate])

/-- R19: the end of a release deletion for the slot at the head of the queue. -/
theorem State.endRelease_sound {s : State} (hs : s.mastersConsistent) {sl : Slot} {rest : List Slot} (hhead : s.releaseQueue = sl :: rest) :
    (s.endRelease sl rest).mastersConsistent := by
  obtain ⟨hout, hrest⟩ := List.nodup_cons.mp (hhead ▸ hs.1)
  refine State.mastersConsistent_of_slot hs sl (fun o ho => ?_) (fun _ _ => rfl) (fun o ho => ?_) hrest ?_
  · simp [State.endRelease, State.master, State.mapMaster, State.setMaster, Fin.val_ne_of_ne (Ne.symm ho)]
  · simp [State.endRelease, hhead, ho]
  · rw [State.masterConsistent_iff]
    have hmaster : (s.endRelease sl rest).master sl = 
        { state := if s.platePresent sl then .spent else .empty
          fields := none
          generation := (s.master sl).generation
          failure := none } := by
      simp [State.endRelease, State.master, State.mapMaster, State.setMaster]
    have hpresent : (s.endRelease sl rest).platePresent sl = s.platePresent sl := rfl
    have hqueue : (s.endRelease sl rest).releaseQueue = rest := rfl
    rw [hmaster, hpresent, hqueue]
    cases s.platePresent sl <;> simp [Master.sound, MasterState.hasFields, MasterState.fitsPlate, hout]

theorem State.deleteNext_sound {s : State} (hs : s.mastersConsistent) : s.deleteNext.mastersConsistent := by
  unfold State.deleteNext
  split
  · exact hs
  next sl rest hhead =>
    split
    · exact hs
    · split
      · exact hs
      next r _ => exact State.endRelease_sound (s := s.dropEntry r.entry) hs hhead
      · exact hs

theorem State.endDeletion_sound {s : State} (hs : s.mastersConsistent) : s.endDeletion.mastersConsistent := by
  unfold State.endDeletion
  split
  · exact hs
  next sl rest hhead =>
    split
    · exact hs
    · split
      · exact State.endRelease_sound hs hhead
      next r _ => exact State.endRelease_sound (s := s.dropEntry r.entry) hs hhead
      · exact hs

theorem Format.freshCells_length (f : Format) : f.freshCells.length = f.cellCount := by
  cases f <;> simp only [Format.freshCells, List.length_append, List.length_replicate] <;> rfl

/-- R10: a LOADED master opened. -/
theorem State.openMaster_sound {s : State} (hs : s.mastersConsistent) {sl : Slot} (hst : (s.master sl).state = .loaded) (f : Format)
    (label : Half) (low high : Account) : (s.setMaster sl (openedMaster f label low high)).mastersConsistent := by
  refine State.setMaster_sound hs sl (fun present queued hm => ?_)
  obtain ⟨-, -, -, -, hplate, hqueue⟩ := hm
  rw [hst] at hplate hqueue
  exact ⟨rfl, fun g hg => by cases hg; exact f.freshCells_length, by simp [openedMaster], by simp [openedMaster], hplate,
    by simpa [openedMaster] using hqueue⟩

theorem State.hardReset_sound (s : State) (phase : ResetPhase) (p : Pins) (plates : Vector Bool 6) (rec : Bool) :
    (s.hardReset phase p plates rec).mastersConsistent := by
  refine ⟨List.nodup_nil, fun sl => ?_⟩
  have hmaster : (s.hardReset phase p plates rec).master sl = .reset plates[sl] := by simp [State.hardReset, State.master]
  have hpresent : (s.hardReset phase p plates rec).platePresent sl = plates[sl] := by
    simp [State.hardReset, State.platePresent, PlateFilter.reset]
  rw [State.masterConsistent_iff, hmaster, hpresent]
  cases hp : plates[sl] <;> simp [Master.sound, Master.reset, MasterState.hasFields, MasterState.fitsPlate, State.hardReset]

/-- Every work keeps the Master Table. -/
theorem State.Works.keeps_masters {s t : State} (h : s.Works t) (hs : s.mastersConsistent) : t.mastersConsistent := by
  cases h with
  | tellPlate => exact State.setPlate_sound hs _ rfl
  | settlePlate => exact State.settlePlate_sound hs _
  | deleteNext => exact State.deleteNext_sound hs
  | endDeletion => exact State.endDeletion_sound hs
  | openMaster sl f label low high hst => exact State.openMaster_sound hs hst f label low high
  | closeMaster sl hst =>
    exact State.settleTest_sound
      (State.mapMaster_sound hs sl (fun _ _ hm => hm.withState (by simp [hst, MasterState.live]) (.inl rfl))) _
  | release sl hst => exact State.streamGo_sound (State.enterReleasing_sound hs sl hst rfl rfl (fun _ _ => rfl))
  | place => exact State.advance_sound (State.markCell_sound (by exact hs) _ _ _) _
  | rekeyWithin =>
    refine State.advance_sound ?_ _
    split <;> exact hs
  | rekeyMove =>
    exact State.settleTest_sound (State.advance_sound (State.advance_sound
      (State.markCell_sound (State.markCell_sound (by exact hs) _ _ _) _ _ _) _) _) _
  | retire => exact State.streamGo_sound (State.retireRecord_sound hs _)
  | replace => exact State.advance_sound (State.markCell_sound (by exact hs) _ _ _) _
  | takeWord => exact State.streamGo_sound (by exact hs)
  | stream => exact State.streamGo_sound hs
  | endFill => exact State.streamGo_sound (State.settleFill_sound (by exact hs) _)
  | endDrain => exact State.streamGo_sound (by exact hs)
  | flushPort => exact State.mastersConsistent_congr (by simp [State.flushPort]) (by simp) (by simp) (State.abandonFill_sound hs)
  | takeJob => exact State.takeJob_sound hs
  | panelReady =>
    unfold State.reportPanelReady
    split
    · exact State.tryOpen_sound (by exact hs)
    · exact hs
  | arrive =>
    unfold State.reportArrived
    split
    · exact State.tryOpen_sound (by exact hs)
    · exact hs
  | failMove => exact State.preparationFault_sound (by exact hs) _
  | preparationFault => exact State.preparationFault_sound hs _
  | tryOpen => exact State.tryOpen_sound hs
  | pulse => exact State.pulse_sound hs _
  | endGate => exact State.tryOpen_sound (by exact hs)
  | endRemoved => exact State.endRemoved_sound hs _
  | haltPreparing => exact State.endPreparing_sound hs _ _ _
  | endSpoiled => exact State.endSpoiled_sound hs _ _ _ _
  | endReturned => exact State.endReturned_sound hs _ _ _ _
  | setLamp => unfold State.setLamp; split <;> exact hs
  | haltPath => unfold State.haltPath; split <;> exact hs
  | turnOutbound | turnInbound | beginListing | sendHighHalf => exact State.mastersConsistent_congr (by simp) (by simp) (by simp) hs
  | tellPins | dropReport | setClass | queueListing | resume | awaitGate | startGate | setTables | startPeriod
  | takeLowHalf | sendLowHalf | showStrobe | goMove | endMotionDrain | haltIdle => exact hs

/-- Settles O54: every work keeps the Master Table, so every command does. -/
theorem stepKeepsTheMasters : Obligations.StepKeepsTheMasters :=
  fun _ _ hs h => step_preserves_film (P := State.mastersConsistent) (fun _ _ hworks hs => hworks.keeps_masters hs)
    (fun s phase p plates rec _ => s.hardReset_sound phase p plates rec) (fun _ _ _ _ _ hs => hs) h hs

end Sys2Proof.Machine

/-! O57, the exposure path. The panel interface lines that the operations on banks leave alone; what each end of a job leaves of the sequencer, the
dose unit and those lines; and the path's invariant, effect by effect. -/

namespace Sys2Proof.Machine

/-! ## The panel interface beside the banks -/

/-- The selected bank and the flags of the SHOW (R99, R100). -/
def PanelStore.lines (p : PanelStore) : Option BankId × Bool × Bool × Bool := (p.selected, p.awaiting, p.strobing, p.showRisen)

theorem PanelStore.lines_eq_iff (p q : PanelStore) :
    p.lines = q.lines ↔ p.selected = q.selected ∧ p.awaiting = q.awaiting ∧ p.strobing = q.strobing ∧ p.showRisen = q.showRisen := by
  simp [PanelStore.lines]

@[simp] theorem PanelStore.setBank_lines (p : PanelStore) (id : BankId) (b : Bank) : (p.setBank id b).lines = p.lines := by cases id <;> rfl

@[simp] theorem State.setBank_lines (s : State) (id : BankId) (b : Bank) : (s.setBank id b).panel.lines = s.panel.lines :=
  s.panel.setBank_lines id b

@[simp] theorem State.freeBank_lines (s : State) (id : BankId) : (s.freeBank id).panel.lines = s.panel.lines := by cases id <;> rfl

@[simp] theorem State.orphanBank_lines (s : State) (id : BankId) : (s.orphanBank id).panel.lines = s.panel.lines := by cases id <;> rfl

@[simp] theorem State.loadBank_lines (s : State) (id : BankId) : (s.loadBank id).panel.lines = s.panel.lines := by cases id <;> rfl

@[simp] theorem State.returnBank_lines (s : State) (id : BankId) : (s.returnBank id).panel.lines = s.panel.lines := by cases id <;> rfl

@[simp] theorem State.letGo_lines (s : State) (id : BankId) : (s.letGo id).panel.lines = s.panel.lines := by
  unfold State.letGo; split <;> simp

@[simp] theorem State.releaseBanksOf_lines (s : State) (sl : Slot) : (s.releaseBanksOf sl).panel.lines = s.panel.lines := by
  have hone : ∀ (t : State) id, (t.releaseBankOf sl id).panel.lines = t.panel.lines := by
    intro t id; unfold State.releaseBankOf; split <;> simp
  simp [State.releaseBanksOf, hone]

@[simp] theorem State.releaseRecordBanks_lines (s : State) (h : Handle) : (s.releaseRecordBanks h).panel.lines = s.panel.lines := by
  have hone : ∀ (t : State) id, (t.releaseRecordBank h id).panel.lines = t.panel.lines := by
    intro t id; unfold State.releaseRecordBank; split <;> simp
  simp [State.releaseRecordBanks, hone]

@[simp] theorem State.settleHeader_lines (s : State) (id : BankId) (h : Header) (v : Verdict) :
    (s.settleHeader id h v).panel.lines = s.panel.lines := by
  cases v <;> simp [State.settleHeader, State.bindHeader]

@[simp] theorem State.streamGo_lines (s : State) : s.streamGo.panel.lines = s.panel.lines := by
  have hexam : s.takeHeader.examineHeader.panel.lines = s.panel.lines := by
    rcases s.takeHeader.examineHeader_cases with heq | ⟨id, w0, w1, w2, w3, rest, _, _, _, heq⟩ <;> simp [heq]
  rw [← hexam, State.streamGo]
  unfold State.consume
  split <;> simp [State.moveFill]

@[simp] theorem State.settleFill_lines (s : State) (f : Fill) : (s.settleFill f).panel.lines = s.panel.lines := by
  unfold State.settleFill
  split
  · simp
  · split
    · split
      · split <;> simp
      · simp
      · simp
    · simp

@[simp] theorem State.finishFill_lines (s : State) (f : Fill) (w : Word) (rest : List Word) :
    (s.finishFill f w rest).panel.lines = s.panel.lines := by
  simp [State.finishFill]

@[simp] theorem State.flushPort_lines (s : State) : s.flushPort.panel.lines = s.panel.lines := by
  have hfill : s.abandonFill.panel.lines = s.panel.lines := by
    unfold State.abandonFill
    split
    · split <;> simp
    all_goals rfl
  simp [State.flushPort, hfill]

@[simp] theorem State.retireRecord_lines (s : State) (r : Record) : (s.retireRecord r).panel.lines = s.panel.lines := by
  unfold State.retireRecord; split <;> simp

@[simp] theorem State.removeLivePlate_lines (s : State) (sl : Slot) : (s.removeLivePlate sl).panel.lines = s.panel.lines := by
  simp [State.removeLivePlate, State.failMaster, State.loseRecords]

@[simp] theorem State.enterReleasing_lines (s : State) (sl : Slot) : (s.enterReleasing sl).panel.lines = s.panel.lines := by
  simp [State.enterReleasing]

@[simp] theorem State.settlePlate_lines (s : State) (sl : Slot) : (s.settlePlate sl).panel.lines = s.panel.lines := by
  unfold State.settlePlate
  dsimp only
  split
  · rfl
  · split
    · rfl
    · split
      · unfold State.plateInserted; split <;> rfl
      · unfold State.plateRemoved; split <;> simp

@[simp] theorem State.ownersExposed_lines (s : State) (j : Job) : (s.ownersExposed j).panel.lines = s.panel.lines := by
  unfold State.ownersExposed
  split
  · unfold State.recordExposed; split <;> simp
  · simp [State.exposeIndex]
  · simp [State.exposeTitle]

@[simp] theorem State.spoilMaster_lines (s : State) (sl : Slot) (why : FailureReason) : (s.spoilMaster sl why).panel.lines = s.panel.lines := by
  unfold State.spoilMaster; split <;> simp [State.failMaster]

@[simp] theorem State.ownersSpoiled_lines (s : State) (j : Job) : (s.ownersSpoiled j).panel.lines = s.panel.lines := by
  unfold State.ownersSpoiled
  split
  · unfold State.recordSpoiled; split
    · split <;> simp
    · rfl
  · simp
  · simp

@[simp] theorem State.ownersReturned_lines (s : State) (j : Job) : (s.ownersReturned j).panel.lines = s.panel.lines := by
  unfold State.ownersReturned
  split
  · unfold State.recordReturned; split
    · split <;> simp
    · simp
  · simp
  · simp

/-! ## What each end of a job leaves of the path -/

theorem State.closeShutter_dose (s : State) : s.closeShutter.dose = if s.seq.path = .exposing then s.dose.close else s.dose := by
  unfold State.closeShutter; split <;> rfl

@[simp] theorem State.dropJob_seq (s : State) (path : PathState) (why : PathFault) : (s.dropJob path why).seq = .stopped path why := rfl

@[simp] theorem State.endRemoved_seq (s : State) (j : Job) : (s.endRemoved j).seq = .stopped .faulted .plateRemoved := by
  simp [State.endRemoved]

theorem State.endRemoved_of_preparing (s : State) (j : Job) (hpath : s.seq.path = .preparing) :
    (s.endRemoved j).dose = s.dose ∧ (s.endRemoved j).panel.lines = s.panel.abandonShow.lines ∧ (s.endRemoved j).motion = s.motion.abandon := by
  simp [State.endRemoved, hpath, State.abandonPreparation]

theorem State.endRemoved_of_exposing (s : State) (j : Job) (hpath : s.seq.path = .exposing) :
    (s.endRemoved j).dose = s.dose.close ∧ (s.endRemoved j).panel.lines = s.panel.lines ∧ (s.endRemoved j).motion = s.motion := by
  simp [State.endRemoved, hpath, State.closeShutter]

theorem State.endPreparing_path (s : State) (j : Job) (path : PathState) (why : PathFault) :
    (s.endPreparing j path why).seq = .stopped path why ∧ (s.endPreparing j path why).dose = s.dose ∧
      (s.endPreparing j path why).panel.lines = s.panel.abandonShow.lines ∧ (s.endPreparing j path why).motion = s.motion.abandon := by
  simp [State.endPreparing, State.abandonPreparation]

theorem State.endSpoiled_path (s : State) (j : Job) (openMs : Nat) (path : PathState) (why : PathFault) (hpath : s.seq.path = .exposing) :
    (s.endSpoiled j openMs path why).seq = .stopped path why ∧ (s.endSpoiled j openMs path why).dose = s.dose.close ∧
      (s.endSpoiled j openMs path why).panel.lines = s.panel.lines ∧ (s.endSpoiled j openMs path why).motion = s.motion := by
  simp [State.endSpoiled, State.closeShutter_dose, hpath]

theorem State.endReturned_path (s : State) (j : Job) (openMs : Nat) (path : PathState) (why : PathFault) (hpath : s.seq.path = .exposing) :
    (s.endReturned j openMs path why).seq = .stopped path why ∧ (s.endReturned j openMs path why).dose = s.dose.close ∧
      (s.endReturned j openMs path why).panel.lines = s.panel.lines ∧ (s.endReturned j openMs path why).motion = s.motion := by
  simp [State.endReturned, State.closeShutter_dose, hpath]

/-- The normal end of an exposure up to the job take that follows it in the same event (R115). -/
def State.endedExposed (s : State) (j : Job) (openMs : Nat) : State :=
  let s1 := s.writeOpenTime j openMs
  let s2 : State := { s1 with dose := s1.dose.updateRate j.target openMs }
  let s3 := (s2.closeShutter.dropJob (if s.seq.haltPending then .halted else .idle) .none).freeBank j.bank
  (s3.ownersExposed j).streamGo

theorem State.endExposed_eq_takeJob (s : State) (j : Job) (openMs : Nat) : s.endExposed j openMs = (s.endedExposed j openMs).takeJob := rfl

theorem State.endedExposed_path (s : State) (j : Job) (openMs : Nat) (hpath : s.seq.path = .exposing) :
    (s.endedExposed j openMs).seq = .stopped (if s.seq.haltPending then .halted else .idle) .none ∧
      (s.endedExposed j openMs).dose = (s.dose.updateRate j.target openMs).close ∧
      (s.endedExposed j openMs).panel.lines = s.panel.lines ∧ (s.endedExposed j openMs).motion = s.motion := by
  simp [State.endedExposed, State.closeShutter_dose, hpath]

/-! ## The invariant of the path -/

/-- The clauses of the path's invariant beside the job's own: what runs, and when (R106, R109, R112, R129, R143). -/
def State.timersFit (s : State) : Prop :=
  (s.seq.haltPending = true → s.seq.path = .preparing ∨ s.seq.path = .exposing) ∧
  (s.seq.fault ≠ .none ↔ s.seq.path = .faulted) ∧
  (s.seq.panelTimer = true ↔ s.awaitsPanel) ∧
  (s.panel.awaiting = true ∨ s.panel.strobing = true ↔ s.awaitsPanel) ∧
  ¬ (s.panel.awaiting = true ∧ s.panel.strobing = true) ∧
  (s.dose.counter = .integrating ↔ s.seq.path = .exposing) ∧
  (s.dose.counter = .gating ↔ s.dose.gateRuns = true) ∧
  (s.dose.limitTimer = true ↔ s.seq.path = .exposing) ∧
  (s.dose.openTimer = true ↔ s.seq.path = .exposing) ∧
  (s.dose.gateTimer = true ↔ s.dose.gateRuns = true) ∧
  (s.dose.darkWindow = .stopped ↔ s.seq.path ≠ .exposing) ∧
  (s.dose.darkWindow = .running → s.dose.count = 0) ∧
  (s.dose.darkWindow = .spent → 1 ≤ s.dose.count) ∧
  (s.dose.calibration = .pending true ∨ s.dose.calibration = .pending false → s.seq.path = .exposing) ∧
  (s.dose.heldDuty.isSome = true → s.seq.path = .exposing ∨ s.dose.gateRuns = true)

/-- The path's invariant reads the sequencer, the dose unit and the panel's lines. -/
theorem State.pathConsistent_congr {s t : State} (hseq : t.seq = s.seq) (hdose : t.dose = s.dose) (hlines : t.panel.lines = s.panel.lines)
    (hs : s.pathConsistent) : t.pathConsistent := by
  obtain ⟨-, hawait, hstrobe, -⟩ := (PanelStore.lines_eq_iff ..).mp hlines
  simpa only [State.pathConsistent, State.jobFits, State.awaitsPanel, hseq, hdose, hawait, hstrobe] using hs

/-- The dose unit while the shutter is closed: no counting but for a gate, and no timer of an exposure (R135, R138, R143). -/
structure DoseUnit.Shut (d : DoseUnit) : Prop where
  idle : d.counter ≠ .integrating
  gating : d.counter = .gating ↔ d.gateRuns = true
  limit : d.limitTimer = false
  opened : d.openTimer = false
  gate : d.gateTimer = true ↔ d.gateRuns = true
  dark : d.darkWindow = .stopped
  settled : ∀ f, d.calibration ≠ .pending f
  held : d.heldDuty.isSome = true → d.gateRuns = true

/-- A shutter that closes with no gate running leaves the unit shut, and the gate of a pending calibration running. -/
theorem DoseUnit.close_shut {d : DoseUnit} (hgate : d.gateRuns = false) (htimer : d.gateTimer = false) : d.close.Shut := by
  have hheld : d.closeShutter.applyHeld = { d.closeShutter with duty := d.heldDuty.getD d.duty, heldDuty := none } := by
    unfold DoseUnit.applyHeld
    cases hh : d.closeShutter.heldDuty <;> simp_all [DoseUnit.closeShutter]
  rw [DoseUnit.close, hheld]
  unfold DoseUnit.startPending
  cases hcal : d.calibration with
  | running f => simp [DoseUnit.gateRuns, hcal] at hgate
  | none => constructor <;> simp [DoseUnit.closeShutter, hcal, htimer, DoseUnit.gateRuns]
  | pending f => constructor <;> simp [DoseUnit.closeShutter, hcal, DoseUnit.startGate, DoseUnit.gateRuns]

theorem State.timersFit.shut {s : State} (hs : s.timersFit) (hpath : s.seq.path ≠ .exposing) : s.dose.Shut := by
  obtain ⟨-, -, -, -, -, hint, hgating, hlimit, hopen, hgate, hdark, -, -, hpending, hheld⟩ := hs
  refine ⟨fun h => hpath (hint.mp h), hgating, ?_, ?_, hgate, hdark.mpr hpath, fun f h => hpath (hpending ?_), fun h => (hheld h).resolve_left hpath⟩
  · simpa [hpath] using hlimit
  · simpa [hpath] using hopen
  · cases f <;> simp [h]

namespace State.pathConsistent

variable {s : State} (hs : s.pathConsistent)

include hs in
theorem shut (hpath : s.seq.path ≠ .exposing) : s.dose.Shut := State.timersFit.shut hs.2 hpath

include hs in
/-- No gate runs while the shutter is open. -/
theorem gate_idle (hpath : s.seq.path = .exposing) : s.dose.gateRuns = false ∧ s.dose.gateTimer = false := by
  obtain ⟨-, -, -, -, -, -, hint, hgating, -, -, hgate, -⟩ := hs
  have hnot : s.dose.gateRuns = false := by
    rw [← Bool.not_eq_true, ← hgating, hint.mpr hpath]; decide
  exact ⟨hnot, by simpa [hnot] using hgate⟩

include hs in
/-- No SHOW is open but in PREPARING. -/
theorem quiet (hpath : s.seq.path ≠ .preparing) : s.panel.awaiting = false ∧ s.panel.strobing = false := by
  obtain ⟨-, -, -, -, hlines, -⟩ := hs
  have hnone : ¬ (s.panel.awaiting = true ∨ s.panel.strobing = true) := fun h => hpath (hlines.mp h).1
  simpa using hnone

include hs in
theorem figures {j : Job} (hjob : s.seq.job = some j) : j.figuresFit := by
  have h := hs.1
  rw [State.jobFits, hjob] at h
  exact h.1

include hs in
theorem count_lt {j : Job} (hjob : s.seq.job = some j) (hpath : s.seq.path = .exposing) :
    j.arrived = true ∧ j.panelReady = true ∧ s.dose.count < j.target := by
  have h := hs.1
  rw [State.jobFits, hjob] at h
  simpa [hpath] using h.2

include hs in
theorem job_isSome (hpath : s.seq.path = .preparing ∨ s.seq.path = .exposing) : ∃ j, s.seq.job = some j := by
  cases hjob : s.seq.job with
  | some j => exact ⟨j, rfl⟩
  | none =>
    have h := hs.1
    rw [State.jobFits, hjob] at h
    exact absurd hpath h

include hs in
theorem path_of_job {j : Job} (hjob : s.seq.job = some j) : s.seq.path = .preparing ∨ s.seq.path = .exposing := by
  have h := hs.1
  rw [State.jobFits, hjob] at h
  cases hpath : s.seq.path <;> simp_all

include hs in
theorem job_eq_none (hprep : s.seq.path ≠ .preparing) (hexp : s.seq.path ≠ .exposing) : s.seq.job = none := by
  cases hjob : s.seq.job with
  | none => rfl
  | some j => exact absurd (hs.path_of_job hjob) (not_or.mpr ⟨hprep, hexp⟩)

end State.pathConsistent

/-- The path without a job, its shutter closed and no SHOW open, fits (R106, R121, R135). -/
theorem State.pathConsistent_of_stopped {t : State} {path : PathState} {why : PathFault} (hseq : t.seq = .stopped path why)
    (hprep : path ≠ .preparing) (hexp : path ≠ .exposing) (hwhy : why ≠ .none ↔ path = .faulted) (hshut : t.dose.Shut)
    (hquiet : t.panel.awaiting = false ∧ t.panel.strobing = false) : t.pathConsistent := by
  have hpath : t.seq.path = path := by rw [hseq]; rfl
  have hjob : t.seq.job = none := by rw [hseq]; rfl
  have hpanel : ¬ t.awaitsPanel := fun h => hprep (hpath ▸ h.1)
  refine ⟨by rw [State.jobFits, hjob, hpath]; exact not_or.mpr ⟨hprep, hexp⟩, by rw [hseq]; simp [Sequencer.stopped], ?_, ?_, ?_, ?_,
    ?_, hshut.gating, ?_, ?_, hshut.gate, ?_, ?_, ?_, ?_, fun h => .inr (hshut.held h)⟩
  · rw [hpath, hseq]; exact hwhy
  · exact iff_of_false (by rw [hseq]; simp [Sequencer.stopped]) hpanel
  · exact iff_of_false (by simp [hquiet]) hpanel
  · simp [hquiet]
  · exact iff_of_false hshut.idle (hpath ▸ hexp)
  · exact iff_of_false (by simp [hshut.limit]) (hpath ▸ hexp)
  · exact iff_of_false (by simp [hshut.opened]) (hpath ▸ hexp)
  · exact iff_of_true hshut.dark (hpath ▸ hexp)
  · simp [hshut.dark]
  · simp [hshut.dark]
  · exact fun h => absurd h (not_or.mpr ⟨hshut.settled true, hshut.settled false⟩)

/-! ## The invariant through the ends of a job -/

theorem State.endRemoved_pathConsistent_of_preparing {s : State} (hs : s.timersFit) (j : Job) (hpath : s.seq.path = .preparing) :
    (s.endRemoved j).pathConsistent := by
  obtain ⟨hdose, hlines, -⟩ := s.endRemoved_of_preparing j hpath
  obtain ⟨-, hawait, hstrobe, -⟩ := (PanelStore.lines_eq_iff ..).mp hlines
  refine State.pathConsistent_of_stopped (s.endRemoved_seq j) (by simp) (by simp) (by simp) ?_ ⟨hawait, hstrobe⟩
  exact hdose ▸ hs.shut (by simp [hpath])

section
variable {s : State} (hs : s.pathConsistent)

include hs in
theorem State.endRemoved_pathConsistent (j : Job) (hpath : s.seq.path = .preparing ∨ s.seq.path = .exposing) :
    (s.endRemoved j).pathConsistent := by
  rcases hpath with hpath | hpath
  · exact State.endRemoved_pathConsistent_of_preparing hs.2 j hpath
  · obtain ⟨hdose, hlines, -⟩ := s.endRemoved_of_exposing j hpath
    obtain ⟨-, hawait, hstrobe, -⟩ := (PanelStore.lines_eq_iff ..).mp hlines
    obtain ⟨hgate, htimer⟩ := hs.gate_idle hpath
    refine State.pathConsistent_of_stopped (s.endRemoved_seq j) (by simp) (by simp) (by simp) ?_ ?_
    · exact hdose ▸ DoseUnit.close_shut hgate htimer
    · rw [hawait, hstrobe]; exact hs.quiet (by simp [hpath])

include hs in
theorem State.endPreparing_pathConsistent (j : Job) {path : PathState} {why : PathFault} (hpath : s.seq.path = .preparing)
    (hend : path = .halted ∧ why = .none ∨ path = .faulted ∧ why ≠ .none) : (s.endPreparing j path why).pathConsistent := by
  obtain ⟨hseq, hdose, hlines, -⟩ := s.endPreparing_path j path why
  obtain ⟨-, hawait, hstrobe, -⟩ := (PanelStore.lines_eq_iff ..).mp hlines
  refine State.pathConsistent_of_stopped hseq ?_ ?_ ?_ (hdose ▸ hs.shut (by simp [hpath])) ⟨hawait, hstrobe⟩
  all_goals rcases hend with ⟨rfl, rfl⟩ | ⟨rfl, hwhy⟩ <;> simp [*]

include hs in
/-- An end of an exposure that closes the shutter and drops the job. -/
theorem State.pathConsistent_of_closed {t : State} {path : PathState} {why : PathFault} {d : DoseUnit} (hpath : s.seq.path = .exposing)
    (hd : d.calibration = s.dose.calibration ∧ d.gateTimer = s.dose.gateTimer) (hseq : t.seq = .stopped path why) (hdose : t.dose = d.close)
    (hlines : t.panel.lines = s.panel.lines) (hprep : path ≠ .preparing) (hexp : path ≠ .exposing) (hwhy : why ≠ .none ↔ path = .faulted) :
    t.pathConsistent := by
  obtain ⟨-, hawait, hstrobe, -⟩ := (PanelStore.lines_eq_iff ..).mp hlines
  obtain ⟨hgate, htimer⟩ := hs.gate_idle hpath
  refine State.pathConsistent_of_stopped hseq hprep hexp hwhy (hdose ▸ DoseUnit.close_shut ?_ (hd.2.trans htimer)) ?_
  · rw [DoseUnit.gateRuns, hd.1]; exact hgate
  · rw [hawait, hstrobe]; exact hs.quiet (by simp [hpath])

include hs in
theorem State.endSpoiled_pathConsistent (j : Job) (openMs : Nat) {path : PathState} {why : PathFault} (hpath : s.seq.path = .exposing)
    (hend : path = .halted ∧ why = .none ∨ path = .faulted ∧ why ≠ .none) : (s.endSpoiled j openMs path why).pathConsistent := by
  obtain ⟨hseq, hdose, hlines, -⟩ := s.endSpoiled_path j openMs path why hpath
  refine State.pathConsistent_of_closed hs hpath ⟨rfl, rfl⟩ hseq hdose hlines ?_ ?_ ?_
  all_goals rcases hend with ⟨rfl, rfl⟩ | ⟨rfl, hwhy⟩ <;> simp [*]

include hs in
theorem State.endReturned_pathConsistent (j : Job) (openMs : Nat) {path : PathState} {why : PathFault} (hpath : s.seq.path = .exposing)
    (hend : path = .halted ∧ why = .none ∨ path = .faulted ∧ why ≠ .none) : (s.endReturned j openMs path why).pathConsistent := by
  obtain ⟨hseq, hdose, hlines, -⟩ := s.endReturned_path j openMs path why hpath
  refine State.pathConsistent_of_closed hs hpath ⟨rfl, rfl⟩ hseq hdose hlines ?_ ?_ ?_
  all_goals rcases hend with ⟨rfl, rfl⟩ | ⟨rfl, hwhy⟩ <;> simp [*]

end

/-! ## The invariant through a job take -/

theorem exposureLimit_range (target rate : Nat) : 20 ≤ exposureLimit target rate ∧ exposureLimit target rate ≤ 4000 := by
  unfold exposureLimit
  simp only [Config.limitCeilingMs, Config.limitFloorMs]
  split <;> omega

/-- A job factor is a byte of the class table or the factor of index parts. -/
theorem State.jobOf_factor_le {s : State} {bd : Binding} {kind : JobKind} {sl : Slot} {factor : Nat} (h : s.jobOf bd = some (kind, sl, factor)) :
    factor ≤ 255 := by
  cases bd with
  | record h' =>
    obtain ⟨r, _, heq⟩ := Option.map_eq_some_iff.mp h
    obtain ⟨-, -, rfl⟩ := by simpa using heq
    exact Nat.le_of_lt_succ (s.dose.classes[r.cls]).isLt
  | index sl' part =>
    obtain ⟨-, -, rfl⟩ := by simpa [State.jobOf] using h
    decide
  | title sl' =>
    obtain ⟨-, -, rfl⟩ := by simpa [State.jobOf] using h
    decide

theorem State.newJob_figuresFit (s : State) (id : BankId) (kind : JobKind) (sl : Slot) {factor : Nat} (hfactor : factor ≤ 255) (f : Format) :
    (s.newJob id kind sl factor f).figuresFit := by
  have hlimit := exposureLimit_range (doseTarget (s.dose.baseOf f) factor (s.dose.trimOf sl)) s.dose.rate.toNat
  exact ⟨doseTarget_ge _ _ _, doseTarget_le (Nat.le_of_lt_succ (s.dose.base[f.baseIndex]).isLt) hfactor
    (Nat.le_of_lt_succ (s.dose.trims[sl]).isLt), hlimit.1, hlimit.2, rfl⟩

theorem State.takeJob_pathConsistent {s : State} (hs : s.pathConsistent) : s.takeJob.pathConsistent := by
  rcases s.takeJob_cases with heq | ⟨id, rest, kind, sl, factor, f, hpath, hcal, -, hjob, -, heq⟩
  · rwa [heq]
  rw [heq]
  obtain ⟨bd, -, hjob⟩ := Option.bind_eq_some_iff.mp hjob
  have hshut := hs.shut (by simp [hpath])
  obtain ⟨hawait, hstrobe⟩ := hs.quiet (by simp [hpath])
  obtain ⟨-, hhalt, hfault, -⟩ := hs
  have hdose : (s.takeJobOf id rest kind sl factor f.format).dose = s.dose := by simp
  have hseq : (s.takeJobOf id rest kind sl factor f.format).seq =
      { s.seq with path := .preparing, job := some (s.newJob id kind sl factor f.format), panelTimer := true } := by
    simp [State.takeJobOf]
  have hstrobes : (s.takeJobOf id rest kind sl factor f.format).panel.strobing = true := by
    cases id <;> rfl
  have hawaits : (s.takeJobOf id rest kind sl factor f.format).panel.awaiting = false := by
    simp [State.takeJobOf, State.showBank, ← hawait]; cases id <;> rfl
  have hpanel : (s.takeJobOf id rest kind sl factor f.format).awaitsPanel := ⟨by rw [hseq], by rw [hseq]; rfl⟩
  refine ⟨?_, fun _ => .inl (by rw [hseq]), ?_, ?_, ?_, ?_, ?_, ?_, ?_, ?_, ?_, ?_, ?_, ?_, ?_, ?_⟩
  · rw [State.jobFits, hseq]
    exact ⟨s.newJob_figuresFit id kind sl (State.jobOf_factor_le hjob) f.format, fun h => absurd h (by simp [State.newJob])⟩
  · rw [hseq]; simpa [hpath] using hfault
  · exact iff_of_true (by rw [hseq]) hpanel
  · exact iff_of_true (.inr hstrobes) hpanel
  · simp [hawaits]
  · rw [hseq, hdose]; exact iff_of_false hshut.idle (by simp)
  · rw [hdose]; exact hshut.gating
  · rw [hseq, hdose]; simp [hshut.limit]
  · rw [hseq, hdose]; simp [hshut.opened]
  · rw [hdose]; exact hshut.gate
  · rw [hseq, hdose]; simp [hshut.dark]
  · rw [hdose]; simp [hshut.dark]
  · rw [hdose]; simp [hshut.dark]
  · rw [hdose]; simp [hcal]
  · rw [hdose]; exact fun h => .inr (hshut.held h)

/-! ## The invariant through pulses and readiness reports -/

theorem DoseUnit.countPulse_keeps (d : DoseUnit) :
    d.countPulse.counter = d.counter ∧ d.countPulse.limitTimer = d.limitTimer ∧ d.countPulse.openTimer = d.openTimer ∧
      d.countPulse.gateTimer = d.gateTimer ∧ d.countPulse.calibration = d.calibration ∧ d.countPulse.heldDuty = d.heldDuty ∧
      d.countPulse.rate = d.rate := by
  unfold DoseUnit.countPulse
  split <;> simp [*]

theorem DoseUnit.updateRate_keeps (d : DoseUnit) (target openMs : Nat) :
    (d.updateRate target openMs).calibration = d.calibration ∧ (d.updateRate target openMs).gateTimer = d.gateTimer := by
  unfold DoseUnit.updateRate; split <;> exact ⟨rfl, rfl⟩

theorem State.reachTarget_pathConsistent {s : State} (hs : s.pathConsistent) (j : Job) (openMs : Nat) (hpath : s.seq.path = .exposing) :
    (s.reachTarget j openMs).pathConsistent := by
  obtain ⟨-, -, -, hgate, hcal, -⟩ := s.dose.countPulse_keeps
  have hpath' : ({ s with dose := s.dose.countPulse } : State).seq.path = .exposing := hpath
  unfold State.reachTarget
  dsimp only
  split
  · obtain ⟨hdose, hlines, -⟩ := State.endRemoved_of_exposing _ j hpath'
    exact State.pathConsistent_of_closed hs hpath ⟨hcal, hgate⟩ (State.endRemoved_seq _ j) hdose hlines (by simp) (by simp) (by simp)
  · obtain ⟨hseq, hdose, hlines, -⟩ := State.endedExposed_path _ j openMs hpath'
    obtain ⟨hcal', hgate'⟩ := s.dose.countPulse.updateRate_keeps j.target openMs
    rw [State.endExposed_eq_takeJob]
    refine State.takeJob_pathConsistent
      (State.pathConsistent_of_closed hs hpath ⟨hcal'.trans hcal, hgate'.trans hgate⟩ hseq hdose hlines ?_ ?_ ?_)
    all_goals cases s.seq.haltPending <;> simp

/-- A pulse short of the target, or one that no exposure counts. -/
theorem State.countPulse_pathConsistent {s : State} (hs : s.pathConsistent)
    (hshort : s.seq.path = .exposing → ∀ j, s.seq.job = some j → s.dose.count + 1 < j.target) :
    ({ s with dose := s.dose.countPulse } : State).pathConsistent := by
  have hcount := fun j hjob hpath => (hs.count_lt (j := j) hjob hpath)
  obtain ⟨hjob, hhalt, hfault, hpanel, hlines, hone, hint, hgating, hlimit, hopen, hgate, hdark, hrun, hspent, hpending, hheld⟩ := hs
  have hkeep : ∀ d : DoseUnit, d.counter = s.dose.counter ∧ d.limitTimer = s.dose.limitTimer ∧ d.openTimer = s.dose.openTimer ∧
      d.gateTimer = s.dose.gateTimer ∧ d.calibration = s.dose.calibration ∧ d.heldDuty = s.dose.heldDuty →
      (s.seq.path = .exposing → ∀ j, s.seq.job = some j → d.count < j.target) →
      (d.darkWindow = .stopped ↔ s.seq.path ≠ .exposing) → (d.darkWindow = .running → d.count = 0) →
      (d.darkWindow = .spent → 1 ≤ d.count) → ({ s with dose := d } : State).pathConsistent := by
    rintro d ⟨h1, h2, h3, h4, h5, h6⟩ hlt h7 h8 h9
    have hruns : d.gateRuns = s.dose.gateRuns := by simp [DoseUnit.gateRuns, h5]
    refine ⟨?_, hhalt, hfault, hpanel, hlines, hone, ?_, ?_, ?_, ?_, ?_, h7, h8, h9, ?_, ?_⟩
    · unfold State.jobFits at hjob ⊢
      cases hj : s.seq.job with
      | none => simpa [hj] using hjob
      | some j =>
        simp only [hj] at hjob ⊢
        refine ⟨hjob.1, ?_⟩
        cases hp : s.seq.path with
        | preparing => simpa only [hp, hruns] using hjob.2
        | exposing => exact ⟨(hcount j hj hp).1, (hcount j hj hp).2.1, hlt hp j hj⟩
        | idle | halted | faulted => simpa only [hp] using hjob.2
    · exact h1 ▸ hint
    · rw [h1, hruns]; exact hgating
    · exact h2 ▸ hlimit
    · exact h3 ▸ hopen
    · rw [h4, hruns]; exact hgate
    · exact h5 ▸ hpending
    · rw [h6, hruns]; exact hheld
  unfold DoseUnit.countPulse
  split
  next hc =>
    have hexp := hint.mp hc
    exact hkeep _ ⟨rfl, rfl, rfl, rfl, rfl, rfl⟩ hshort (by simp [hexp]) (by simp) (fun _ => Nat.le_add_left 1 _)
  next hc =>
    have hexp : s.seq.path ≠ .exposing := fun h => by simp [hint.mpr h] at hc
    have hstopped := hdark.mpr hexp
    exact hkeep _ ⟨rfl, rfl, rfl, rfl, rfl, rfl⟩ (fun h => absurd h hexp) hdark (by simp [hstopped]) (by simp [hstopped])
  · exact hkeep _ ⟨rfl, rfl, rfl, rfl, rfl, rfl⟩ (fun hp j hj => (hcount j hj hp).2.2) hdark hrun hspent

theorem State.pulse_pathConsistent {s : State} (hs : s.pathConsistent) (openMs : Nat) : (s.pulse openMs).pathConsistent := by
  unfold State.pulse
  split
  next j hc hpath hjob =>
    split
    · exact State.reachTarget_pathConsistent hs j openMs hpath
    next hlt =>
      refine State.countPulse_pathConsistent hs (fun _ j' hj' => ?_)
      obtain rfl : j = j' := Option.some.inj (hjob.symm.trans hj')
      exact Nat.not_le.mp hlt
  next hnot =>
    refine State.countPulse_pathConsistent hs (fun hpath j hjob => ?_)
    obtain ⟨-, -, -, -, -, -, hint, -⟩ := hs
    exact (hnot j (hint.mpr hpath) hpath hjob).elim

/-- The opening of the shutter, from a path that fits but for a job whose reports may both be in (R110, R112). -/
theorem State.tryOpen_pathConsistent {s : State} (hrest : s.timersFit)
    (hjob : s.jobFits ∨ s.seq.path = .preparing ∧ ∃ j, s.seq.job = some j ∧ j.figuresFit) : s.tryOpen.pathConsistent := by
  unfold State.tryOpen
  split
  next j hpath hj =>
    have hfigures : j.figuresFit := by
      rcases hjob with hjob | ⟨-, j', hj', hfig⟩
      · rw [State.jobFits, hj] at hjob; exact hjob.1
      · obtain rfl : j = j' := Option.some.inj (hj.symm.trans hj'); exact hfig
    split
    next hready =>
      obtain ⟨harrived, hpanelReady, hgateRuns⟩ := hready
      split
      · exact State.endRemoved_pathConsistent_of_preparing hrest j hpath
      · have hno : ¬ s.awaitsPanel := by
          rintro ⟨-, h⟩
          simp [hj, hpanelReady] at h
        have hshut := hrest.shut (by simp [hpath])
        obtain ⟨hhalt, hfault, hpanel, hlines, hone, -⟩ := hrest
        have hno' : ∀ d, ¬ ({ s with seq := { s.seq with path := .exposing }, dose := d } : State).awaitsPanel := by
          simp [State.awaitsPanel]
        refine ⟨?_, fun _ => .inr rfl, ?_, ?_, ?_, hone, iff_of_true rfl rfl, ?_, iff_of_true rfl rfl, iff_of_true rfl rfl, hshut.gate,
          ?_, fun _ => rfl, ?_, fun _ => rfl, fun _ => .inl rfl⟩
        · rw [State.jobFits]
          simp only [hj]
          exact ⟨hfigures, harrived, hpanelReady, Nat.lt_of_lt_of_le (m := 16) (by simp [DoseUnit.openShutter]) hfigures.1⟩
        · simpa [hpath] using hfault
        · exact iff_of_false (fun h => hno (hpanel.mp h)) (hno' _)
        · exact iff_of_false (fun h => hno (hlines.mp h)) (hno' _)
        · exact iff_of_false (by simp [DoseUnit.openShutter]) (by simpa [DoseUnit.gateRuns, DoseUnit.openShutter] using hgateRuns)
        · exact iff_of_false (by simp [DoseUnit.openShutter]) (fun h => h rfl)
        · simp [DoseUnit.openShutter]
    next hnot =>
      refine ⟨?_, hrest⟩
      rw [State.jobFits, hj]
      simp only [hpath]
      exact ⟨hfigures, fun ha hp => by simpa [ha, hp] using hnot⟩
  next hnot =>
    refine ⟨hjob.resolve_right ?_, hrest⟩
    rintro ⟨hpath, j, hj, -⟩
    exact hnot j hpath hj

theorem State.preparationFault_pathConsistent {s : State} (hs : s.pathConsistent) {why : PathFault} (hwhy : why ≠ .none) :
    (s.preparationFault why).pathConsistent := by
  unfold State.preparationFault
  split
  next j hpath hjob =>
    split
    · exact State.endRemoved_pathConsistent hs j (.inl hpath)
    · exact State.endPreparing_pathConsistent hs j hpath (.inr ⟨rfl, hwhy⟩)
  · exact hs

theorem State.reportPanelReady_of_preparing {s : State} {j : Job} (hpath : s.seq.path = .preparing) (hjob : s.seq.job = some j) :
    s.reportPanelReady = ({ s with seq := { s.seq with job := some { j with panelReady := true }, panelTimer := false } } : State).tryOpen := by
  simp only [State.reportPanelReady, hpath, hjob]

theorem State.reportArrived_of_preparing {s : State} {j : Job} (hpath : s.seq.path = .preparing) (hjob : s.seq.job = some j) :
    s.reportArrived = ({ s with seq := { s.seq with job := some { j with arrived := true } } } : State).tryOpen := by
  simp only [State.reportArrived, hpath, hjob]

/-- R101, R110: a readiness of the panel that is awaited. -/
theorem State.panelReady_pathConsistent {s : State} (hs : s.pathConsistent) (haw : s.panel.awaiting = true) :
    ({ s with panel := { s.panel with awaiting := false } } : State).reportPanelReady.pathConsistent := by
  obtain ⟨hjobFits, hhalt, hfault, hpanel, hlines, hone, hrest⟩ := hs
  obtain ⟨hpath, hready⟩ := hlines.mp (.inl haw)
  obtain ⟨j, hjob, -⟩ := Option.map_eq_some_iff.mp hready
  have hstrobe : s.panel.strobing = false := by simpa [haw] using hone
  have hfigures : j.figuresFit := by rw [State.jobFits, hjob] at hjobFits; exact hjobFits.1
  rw [State.reportPanelReady_of_preparing (s := { s with panel := { s.panel with awaiting := false } }) hpath hjob]
  refine State.tryOpen_pathConsistent ⟨hhalt, hfault, ?_, ?_, ?_, hrest⟩ (.inr ⟨hpath, _, rfl, hfigures⟩)
  · simp [State.awaitsPanel]
  · simp [State.awaitsPanel, hstrobe]
  · simp

/-- R65, R110: the arrival of the carriage. -/
theorem State.arrive_pathConsistent {s : State} (hs : s.pathConsistent) (m : MotionPort) :
    ({ s with motion := m } : State).reportArrived.pathConsistent := by
  unfold State.reportArrived
  split
  next j hpath hjob =>
    have hpath : s.seq.path = .preparing := hpath
    have hjob : s.seq.job = some j := hjob
    have hfigures := hs.figures hjob
    obtain ⟨-, hhalt, hfault, hpanel, hlines, hrest⟩ := hs
    have hawaits : ({ s with seq := { s.seq with job := some { j with arrived := true } }, motion := m } : State).awaitsPanel ↔ s.awaitsPanel := by
      simp [State.awaitsPanel, hjob]
    exact State.tryOpen_pathConsistent ⟨hhalt, hfault, hpanel.trans hawaits.symm, hlines.trans hawaits.symm, hrest⟩
      (.inr ⟨hpath, _, rfl, hfigures⟩)
  · exact hs

theorem DoseUnit.applyHeld_keeps (d : DoseUnit) :
    d.applyHeld = { d with duty := d.heldDuty.getD d.duty, heldDuty := none } := by
  obtain ⟨_, _, _, _, held, _, _, _, _, _, _, _, _, _, _⟩ := d
  cases held <;> rfl

/-- R139: the end of a gate. -/
theorem State.endGate_pathConsistent {s : State} (hs : s.pathConsistent) {f : Bool} (hcal : s.dose.calibration = .running f) :
    ({ s with dose := s.dose.endGate f } : State).tryOpen.pathConsistent := by
  have hgateRuns : s.dose.gateRuns = true := by simp [DoseUnit.gateRuns, hcal]
  have hexp : s.seq.path ≠ .exposing := fun h => by simp [(hs.gate_idle h).1] at hgateRuns
  have hshut := hs.shut hexp
  have hjobFits : ({ s with dose := s.dose.endGate f } : State).jobFits ∨
      s.seq.path = .preparing ∧ ∃ j, s.seq.job = some j ∧ j.figuresFit := by
    cases hjob : s.seq.job with
    | none =>
      have h := hs.1
      simp only [State.jobFits, hjob] at h ⊢
      exact .inl h
    | some j => exact .inr ⟨(hs.path_of_job hjob).resolve_right hexp, j, rfl, hs.figures hjob⟩
  obtain ⟨-, hhalt, hfault, hpanel, hlines, hone, -⟩ := hs
  refine State.tryOpen_pathConsistent ⟨hhalt, hfault, hpanel, hlines, hone, ?_, ?_, ?_, ?_, ?_, ?_, ?_, ?_, ?_, ?_⟩ hjobFits <;>
    simp [DoseUnit.endGate, DoseUnit.applyHeld_keeps, DoseUnit.gateRuns, hexp, hshut.limit, hshut.opened, hshut.dark]

theorem State.hardReset_pathConsistent (s : State) (phase : ResetPhase) (p : Pins) (plates : Vector Bool 6) (rec : Bool) :
    (s.hardReset phase p plates rec).pathConsistent := by
  refine State.pathConsistent_of_stopped (path := .idle) (why := .none) rfl (by simp) (by simp) (by simp) ?_ ⟨rfl, rfl⟩
  constructor <;> simp [State.hardReset, DoseUnit.reset, DoseUnit.gateRuns]

/-- Without a job, the sequencer holds its path state and fault reason alone. -/
theorem State.pathConsistent.seq_stopped {s : State} (hs : s.pathConsistent) (hprep : s.seq.path ≠ .preparing) (hexp : s.seq.path ≠ .exposing)
    (path : PathState) (why : PathFault) : { s.seq with path := path, fault := why } = Sequencer.stopped path why := by
  have hjob := hs.job_eq_none hprep hexp
  obtain ⟨-, hhalt, -, hpanel, -⟩ := hs
  have hhalt' : s.seq.haltPending = false := Bool.eq_false_iff.mpr fun h => (not_or.mpr ⟨hprep, hexp⟩) (hhalt h)
  have hpanel' : s.seq.panelTimer = false := Bool.eq_false_iff.mpr fun h => hprep (hpanel.mp h).1
  simp [Sequencer.stopped, hjob, hhalt', hpanel']

/-- R123, R118: an IDLE path halted. -/
theorem State.haltIdle_pathConsistent {s : State} (hs : s.pathConsistent) (hpath : s.seq.path = .idle) :
    ({ s with seq := { s.seq with path := .halted } } : State).pathConsistent := by
  have hfault : s.seq.fault = .none := by
    obtain ⟨-, -, hfault, -⟩ := hs
    simpa [hpath] using hfault
  refine State.pathConsistent_of_stopped (path := .halted) (why := .none) ?_ (by simp) (by simp) (by simp) (hs.shut (by simp [hpath]))
    (hs.quiet (by simp [hpath]))
  exact hfault ▸ hs.seq_stopped (by simp [hpath]) (by simp [hpath]) .halted s.seq.fault

/-- R123: HALT. -/
theorem State.haltPath_pathConsistent {s : State} (hs : s.pathConsistent) : s.haltPath.pathConsistent := by
  unfold State.haltPath
  have hpend : s.seq.path = .preparing ∨ s.seq.path = .exposing →
      ({ s with seq := { s.seq with haltPending := true } } : State).pathConsistent := fun hpath => ⟨hs.1, fun _ => hpath, hs.2.2⟩
  split
  next hpath => exact State.haltIdle_pathConsistent hs hpath
  next hpath => exact hpend (.inl hpath)
  next hpath => exact hpend (.inr hpath)
  · exact hs
  · exact hs

/-- R124: a RESUME of a stopped path. -/
theorem State.resume_pathConsistent {s : State} (hs : s.pathConsistent) (hpath : s.seq.path = .halted ∨ s.seq.path = .faulted) :
    ({ s with seq := { s.seq with path := .idle, fault := .none } } : State).pathConsistent := by
  obtain ⟨hprep, hexp⟩ : s.seq.path ≠ .preparing ∧ s.seq.path ≠ .exposing := by rcases hpath with h | h <;> simp [h]
  refine State.pathConsistent_of_stopped (path := .idle) (why := .none) ?_ (by simp) (by simp) (by simp) (hs.shut hexp) (hs.quiet hprep)
  exact State.pathConsistent.seq_stopped hs hprep hexp _ _

/-- R138: a CALIBRATE while the shutter is open. -/
theorem State.awaitGate_pathConsistent {s : State} (hs : s.pathConsistent) (f : Bool) (hcal : s.dose.calibration = .none)
    (hpath : s.seq.path = .exposing) : ({ s with dose := { s.dose with calibration := .pending f } } : State).pathConsistent := by
  obtain ⟨hjob, hhalt, hfault, hpanel, hlines, hone, hint, hgating, hlimit, hopen, hgate, hdark, hrun, hspent, -, -⟩ := hs
  have hruns : s.dose.gateRuns = false := by simp [DoseUnit.gateRuns, hcal]
  refine ⟨?_, hhalt, hfault, hpanel, hlines, hone, hint, ?_, hlimit, hopen, ?_, hdark, hrun, hspent, fun _ => hpath, fun _ => .inl hpath⟩
  · simpa only [State.jobFits, hpath] using hjob
  · rw [hruns] at hgating; exact hgating
  · rw [hruns] at hgate; exact hgate

/-- R138, R139: a CALIBRATE that starts its gate. -/
theorem State.startGate_pathConsistent {s : State} (hs : s.pathConsistent) (f : Bool) (hpath : s.seq.path ≠ .exposing) :
    ({ s with dose := s.dose.startGate f } : State).pathConsistent := by
  have hshut := hs.shut hpath
  obtain ⟨hjob, hhalt, hfault, hpanel, hlines, hone, -⟩ := hs
  refine ⟨?_, hhalt, hfault, hpanel, hlines, hone, ?_, ?_, ?_, ?_, ?_, ?_, ?_, ?_, ?_, ?_⟩
  · unfold State.jobFits at hjob ⊢
    cases hj : s.seq.job with
    | none => simpa only [hj] using hjob
    | some j =>
      simp only [hj] at hjob ⊢
      refine ⟨hjob.1, ?_⟩
      cases hp : s.seq.path with
      | preparing => exact fun _ _ => rfl
      | exposing => exact absurd hp hpath
      | idle | halted | faulted => simpa only [hp] using hjob.2
  all_goals simp [DoseUnit.startGate, DoseUnit.gateRuns, hpath, hshut.limit, hshut.opened, hshut.dark]

/-- R143: SET_LAMP. -/
theorem State.setLamp_pathConsistent {s : State} (hs : s.pathConsistent) (duty : Byte) : (s.setLamp duty).pathConsistent := by
  unfold State.setLamp
  split
  next hheld =>
    obtain ⟨hjob, hhalt, hfault, hpanel, hlines, hone, hint, hgating, hlimit, hopen, hgate, hdark, hrun, hspent, hpending, -⟩ := hs
    exact ⟨hjob, hhalt, hfault, hpanel, hlines, hone, hint, hgating, hlimit, hopen, hgate, hdark, hrun, hspent, hpending, fun _ => hheld⟩
  · exact hs

/-- R100: the strobe of a SHOW that is owed. -/
theorem State.showStrobe_pathConsistent {s : State} (hs : s.pathConsistent) (hstrobe : s.panel.strobing = true) :
    ({ s with panel := { s.panel with strobing := false, awaiting := true, showRisen := true } } : State).pathConsistent := by
  obtain ⟨hjob, hhalt, hfault, hpanel, hlines, -, hrest⟩ := hs
  exact ⟨hjob, hhalt, hfault, hpanel, iff_of_true (.inl rfl) (hlines.mp (.inr hstrobe)), by simp, hrest⟩

/-- Every work keeps the path. -/
theorem State.Works.keeps_path {s t : State} (h : s.Works t) (hs : s.pathConsistent) : t.pathConsistent := by
  cases h with
  | haltPath => exact State.haltPath_pathConsistent hs
  | resume hpath => exact State.resume_pathConsistent hs hpath
  | awaitGate f hcal hpath => exact State.awaitGate_pathConsistent hs f hcal hpath
  | startGate f _ hpath => exact State.startGate_pathConsistent hs f hpath
  | setLamp duty => exact State.setLamp_pathConsistent hs duty
  | takeJob => exact State.takeJob_pathConsistent hs
  | showStrobe hst => exact State.showStrobe_pathConsistent hs hst
  | panelReady haw => exact State.panelReady_pathConsistent hs haw
  | arrive => exact State.arrive_pathConsistent hs _
  | failMove why hwhy => exact State.preparationFault_pathConsistent (by exact hs) hwhy
  | preparationFault why hwhy => exact State.preparationFault_pathConsistent hs hwhy
  | tryOpen => exact State.tryOpen_pathConsistent hs.2 (.inl hs.1)
  | pulse openMs => exact State.pulse_pathConsistent hs openMs
  | endGate f hcal => exact State.endGate_pathConsistent hs hcal
  | haltIdle hpath => exact State.haltIdle_pathConsistent hs hpath
  | endRemoved j _ hpath => exact State.endRemoved_pathConsistent hs j hpath
  | haltPreparing j _ hpath => exact State.endPreparing_pathConsistent hs j hpath (.inl ⟨rfl, rfl⟩)
  | endSpoiled j openMs path why _ hpath _ hend => exact State.endSpoiled_pathConsistent hs j openMs hpath hend
  | endReturned j openMs path why _ hpath _ hend => exact State.endReturned_pathConsistent hs j openMs hpath hend
  | settlePlate | deleteNext | endDeletion | closeMaster | release | place | rekeyWithin | rekeyMove | retire | replace | takeWord | stream | endFill
  | endDrain | flushPort | turnOutbound | turnInbound | beginListing | sendHighHalf =>
    exact State.pathConsistent_congr (by simp) (by simp) (by simp) hs
  | tellPins | tellPlate | dropReport | openMaster | setClass | queueListing | setTables | startPeriod | takeLowHalf | sendLowHalf
  | goMove | endMotionDrain => exact hs

end Sys2Proof.Machine

/-! O57, the motion port: what each of its operations keeps of the port's form, and that it serves a move exactly while a job waits for one. -/

namespace Sys2Proof.Machine

/-! ## The port alone -/

/-- An abandoned port keeps its form and serves no move (R68). -/
theorem MotionPort.abandon_consistent {m : MotionPort} (hm : m.consistent) : m.abandon.consistent ∧ ¬ m.abandon.serves := by
  obtain ⟨htarget, htimer, hmessage, habandoned, hpending⟩ := hm
  unfold MotionPort.abandon
  cases hport : m.port with
  | idle =>
    have hnone : ¬ m.pendingMove.isSome = true := fun h => by
      rcases hpending h with h | h
      · simp [hport] at h
      · simp [hport] at habandoned; simp [habandoned] at h
    refine ⟨⟨htarget, htimer, hmessage, habandoned, hpending⟩, ?_⟩
    simp [MotionPort.serves, hport]
    simpa using hnone
  | sending =>
    simp only [hport] at htarget htimer hmessage
    simp_all [MotionPort.consistent, MotionPort.serves]
  | moving =>
    have hno : m.abandoned = false := by simpa [hport] using habandoned
    have hnone : m.pendingMove = none := by simpa [hport, hno] using hpending
    simp only [hport] at htarget htimer hmessage
    simp_all [MotionPort.consistent, MotionPort.serves]
  | draining =>
    have hno : m.abandoned = false := by simpa [hport] using habandoned
    simp only [hport] at htarget htimer hmessage
    simp_all [MotionPort.consistent, MotionPort.serves]

/-- A move or drain ended with none pending leaves the port IDLE and serving none (R65, R66, R67). -/
theorem MotionPort.finish_consistent {m : MotionPort} (hm : m.consistent) (hport : m.port = .moving ∨ m.port = .draining)
    (hnone : m.pendingMove = none) (known : Option Turret) : (m.finish known).consistent ∧ ¬ (m.finish known).serves := by
  obtain ⟨-, -, hmessage, habandoned, -⟩ := hm
  have hsend : m.port ≠ .sending := by rcases hport with h | h <;> simp [h]
  have hno : m.abandoned = false := Bool.eq_false_iff.mpr fun h => hsend (habandoned h)
  have hsilent : m.message = none := by simpa [hsend] using hmessage
  simp [MotionPort.finish, MotionPort.consistent, MotionPort.serves, hnone, hno, hsilent]

theorem MotionPort.pending_none_of_moving {m : MotionPort} (hm : m.consistent) (hport : m.port = .moving) : m.pendingMove = none := by
  obtain ⟨-, -, -, habandoned, hpending⟩ := hm
  have hno : m.abandoned = false := by simpa [hport] using habandoned
  simpa [hport, hno] using hpending

/-- A request to a port that serves no move is served (R64, R68). -/
theorem MotionPort.request_consistent {m : MotionPort} (hm : m.consistent) (hfree : ¬ m.serves) (t : Target) :
    (m.request t).consistent ∧ (m.request t).serves := by
  obtain ⟨htarget, htimer, hmessage, habandoned, hpending⟩ := hm
  have hmoving : m.port ≠ .moving := fun h => hfree (.inl h)
  have hsending : m.port = .sending → m.abandoned = true := fun h => by
    by_contra hno
    exact hfree (.inr (.inl ⟨h, by simpa using hno⟩))
  have hnone : m.pendingMove = none := by
    simpa using fun h => hfree (.inr (.inr h))
  unfold MotionPort.request
  cases hport : m.port with
  | idle =>
    have hno : m.abandoned = false := by simpa [hport] using habandoned
    simp_all [MotionPort.issue, MotionPort.consistent, MotionPort.serves]
  | sending => simp_all [MotionPort.consistent, MotionPort.serves]
  | moving => exact absurd hport hmoving
  | draining => simp_all [MotionPort.consistent, MotionPort.serves]

theorem MotionPort.go_consistent {m : MotionPort} (hm : m.consistent) : m.go.consistent ∧ (m.go.serves ↔ m.serves) := by
  unfold MotionPort.go
  cases hport : m.port with
  | sending =>
    obtain ⟨htarget, htimer, hmessage, habandoned, hpending⟩ := hm
    cases hab : m.abandoned <;> simp_all [MotionPort.consistent, MotionPort.serves]
  | idle | moving | draining => exact ⟨hm, Iff.rfl⟩

/-- The end of a drain issues the move that is pending (R68). -/
theorem MotionPort.endDrain_consistent {m : MotionPort} (hm : m.consistent) (hport : m.port = .draining) (known : Option Turret) :
    (m.endDrain known).consistent ∧ ((m.endDrain known).serves ↔ m.serves) := by
  have hserves : m.serves ↔ m.pendingMove.isSome = true := by simp [MotionPort.serves, hport]
  unfold MotionPort.endDrain
  split
  next t hpend =>
    obtain ⟨-, -, -, habandoned, -⟩ := hm
    have hno : m.abandoned = false := by simpa [hport] using habandoned
    rw [hserves]
    simp [MotionPort.finish, MotionPort.issue, MotionPort.consistent, MotionPort.serves, hno, hpend]
  next hpend =>
    obtain ⟨hcons, hnot⟩ := MotionPort.finish_consistent hm (.inr hport) hpend known
    exact ⟨hcons, iff_of_false hnot (by simp [hserves, hpend])⟩

/-! ## The port beside the path -/

theorem State.motionConsistent_congr {s t : State} (hmotion : t.motion = s.motion) (hawaits : t.awaitsMove ↔ s.awaitsMove)
    (hs : s.motionConsistent) : t.motionConsistent := by
  unfold State.motionConsistent at hs ⊢
  rw [hmotion, hawaits]
  exact hs

theorem State.not_awaitsMove {s : State} (hpath : s.seq.path ≠ .preparing) : ¬ s.awaitsMove := fun h => hpath h.1

/-- A port that serves no move, beside a path that waits for none. -/
theorem State.motionConsistent_of_free {t : State} (hm : t.motion.consistent ∧ ¬ t.motion.serves) (hawaits : ¬ t.awaitsMove) :
    t.motionConsistent := ⟨hm.1, iff_of_false hm.2 hawaits⟩

theorem State.motionConsistent.free {s : State} (hs : s.motionConsistent) (hawaits : ¬ s.awaitsMove) :
    s.motion.consistent ∧ ¬ s.motion.serves := ⟨hs.1, fun h => hawaits (hs.2.mp h)⟩

/-- A change of the path that neither starts nor ends a wait. -/
theorem State.motionConsistent_of_path {s t : State} (hs : s.motionConsistent) (hmotion : t.motion = s.motion) (hfrom : ¬ s.awaitsMove)
    (hto : ¬ t.awaitsMove) : t.motionConsistent :=
  State.motionConsistent_congr hmotion (iff_of_false hto hfrom) hs

/-- A preparation that is given up: its move is abandoned. -/
theorem State.motionConsistent_of_abandoned {t : State} {m : MotionPort} (hm : m.consistent) (hmotion : t.motion = m.abandon)
    {path : PathState} {why : PathFault} (hseq : t.seq = .stopped path why) (hpath : path ≠ .preparing) : t.motionConsistent :=
  State.motionConsistent_of_free (hmotion ▸ MotionPort.abandon_consistent hm) (State.not_awaitsMove (by rw [hseq]; exact hpath))

theorem State.endRemoved_motionConsistent_of_preparing {s : State} (hm : s.motion.consistent) (j : Job) (hpath : s.seq.path = .preparing) :
    (s.endRemoved j).motionConsistent :=
  State.motionConsistent_of_abandoned hm (s.endRemoved_of_preparing j hpath).2.2 (s.endRemoved_seq j) (by simp)

theorem State.endRemoved_motionConsistent_of_exposing {s : State} (hs : s.motionConsistent) (j : Job) (hpath : s.seq.path = .exposing) :
    (s.endRemoved j).motionConsistent :=
  State.motionConsistent_of_path hs (s.endRemoved_of_exposing j hpath).2.2 (State.not_awaitsMove (by simp [hpath]))
    (State.not_awaitsMove (by rw [s.endRemoved_seq j]; simp [Sequencer.stopped]))

theorem State.preparationFault_motionConsistent {s : State} (hm : s.motion.consistent) (hnot : ¬ s.awaitsMove → ¬ s.motion.serves)
    (why : PathFault) (hjob : s.seq.path = .preparing → ∃ j, s.seq.job = some j) : (s.preparationFault why).motionConsistent := by
  unfold State.preparationFault
  split
  next j hpath _ =>
    split
    · exact State.endRemoved_motionConsistent_of_preparing hm j hpath
    · obtain ⟨hseq, -, -, hmotion⟩ := s.endPreparing_path j .faulted why
      exact State.motionConsistent_of_abandoned hm hmotion hseq (by simp)
  next hno =>
    have hawaits : ¬ s.awaitsMove := fun h => by
      obtain ⟨j, hj⟩ := hjob h.1
      exact hno j h.1 hj
    exact State.motionConsistent_of_free ⟨hm, hnot hawaits⟩ hawaits

theorem State.tryOpen_motionConsistent {s : State} (hs : s.motionConsistent) : s.tryOpen.motionConsistent := by
  unfold State.tryOpen
  split
  next j hpath hjob =>
    split
    next hready =>
      split
      · exact State.endRemoved_motionConsistent_of_preparing hs.1 j hpath
      · exact State.motionConsistent_of_path hs rfl (fun h => by simpa [hjob, hready.1] using h.2) (State.not_awaitsMove (by simp))
    · exact hs
  · exact hs

theorem State.takeJob_motionConsistent {s : State} (hs : s.motionConsistent) : s.takeJob.motionConsistent := by
  rcases s.takeJob_cases with heq | ⟨id, rest, kind, sl, factor, f, hpath, -, -, -, -, heq⟩
  · rwa [heq]
  rw [heq]
  obtain ⟨hcons, hfree⟩ := hs.free (State.not_awaitsMove (by simp [hpath]))
  have hmotion : (s.takeJobOf id rest kind sl factor f.format).motion = s.motion.request (jobTarget f.format sl kind) := by
    simp [State.takeJobOf]
  obtain ⟨hcons', hserves⟩ := MotionPort.request_consistent hcons hfree (jobTarget f.format sl kind)
  exact ⟨hmotion ▸ hcons', iff_of_true (hmotion ▸ hserves) ⟨rfl, rfl⟩⟩

theorem State.pulse_motionConsistent {s : State} (hs : s.motionConsistent) (openMs : Nat) : (s.pulse openMs).motionConsistent := by
  unfold State.pulse
  split
  next j _ hpath _ =>
    split
    · have hpath' : ({ s with dose := s.dose.countPulse } : State).seq.path = .exposing := hpath
      unfold State.reachTarget
      dsimp only
      split
      · exact State.endRemoved_motionConsistent_of_exposing (by exact hs) j hpath'
      · obtain ⟨hseq, -, -, hmotion⟩ := State.endedExposed_path _ j openMs hpath'
        rw [State.endExposed_eq_takeJob]
        refine State.takeJob_motionConsistent
          (State.motionConsistent_of_path hs hmotion (State.not_awaitsMove (by simp [hpath])) (State.not_awaitsMove ?_))
        rw [hseq]
        cases s.seq.haltPending <;> simp [Sequencer.stopped]
    · exact hs
  · exact hs

/-- R65, R110: the arrival of the move that the job waits for. -/
theorem State.arrive_motionConsistent {s : State} (hs : s.motionConsistent) (hport : s.motion.port = .moving) :
    ({ s with motion := s.motion.finish s.motion.targetTurret } : State).reportArrived.motionConsistent := by
  have hawaits : s.awaitsMove := hs.2.mp (.inl hport)
  obtain ⟨j, hjob, -⟩ := Option.map_eq_some_iff.mp hawaits.2
  rw [State.reportArrived_of_preparing (s := { s with motion := s.motion.finish s.motion.targetTurret }) hawaits.1 hjob]
  refine State.tryOpen_motionConsistent (State.motionConsistent_of_free ?_ (by simp [State.awaitsMove]))
  exact MotionPort.finish_consistent hs.1 (.inl hport) (MotionPort.pending_none_of_moving hs.1 hport) _

/-- R101, R110: a readiness of the panel leaves the wait for the move. -/
theorem State.panelReady_motionConsistent {s : State} (hs : s.motionConsistent) : s.reportPanelReady.motionConsistent := by
  unfold State.reportPanelReady
  split
  next j hpath hjob =>
    refine State.tryOpen_motionConsistent (State.motionConsistent_congr (s := s) rfl ?_ hs)
    simp [State.awaitsMove, hjob]
  · exact hs

theorem State.hardReset_motionConsistent (s : State) (phase : ResetPhase) (p : Pins) (plates : Vector Bool 6) (rec : Bool) :
    (s.hardReset phase p plates rec).motionConsistent := by
  refine State.motionConsistent_of_free ?_ (State.not_awaitsMove (by simp [State.hardReset, Sequencer.reset]))
  simp [State.hardReset, MotionPort.reset, MotionPort.consistent, MotionPort.serves]

/-- A work on a path that fits keeps the motion port in agreement with it. -/
theorem State.Works.keeps_motion {s t : State} (h : s.Works t) (hpathFits : s.pathConsistent) (hs : s.motionConsistent) : t.motionConsistent := by
  cases h with
  | haltPath =>
    unfold State.haltPath
    split
    next hpath => exact State.motionConsistent_of_path hs rfl (State.not_awaitsMove (by simp [hpath])) (State.not_awaitsMove (by simp))
    all_goals exact hs
  | resume hpath =>
    exact State.motionConsistent_of_path hs rfl (State.not_awaitsMove (by rcases hpath with h | h <;> simp [h])) (State.not_awaitsMove (by simp))
  | haltIdle hpath =>
    exact State.motionConsistent_of_path hs rfl (State.not_awaitsMove (by simp [hpath])) (State.not_awaitsMove (by simp))
  | setLamp => unfold State.setLamp; split <;> exact hs
  | takeJob => exact State.takeJob_motionConsistent hs
  | panelReady => exact State.panelReady_motionConsistent (by exact hs)
  | goMove =>
    obtain ⟨hcons, hserves⟩ := MotionPort.go_consistent hs.1
    exact ⟨hcons, hserves.trans hs.2⟩
  | arrive hport => exact State.arrive_motionConsistent hs hport
  | failMove why _ hport =>
    obtain ⟨hcons, hnot⟩ :=
      MotionPort.finish_consistent hs.1 (.inl hport) (MotionPort.pending_none_of_moving hs.1 hport) none
    exact State.preparationFault_motionConsistent hcons (fun _ => hnot) why (fun h => hpathFits.job_isSome (.inl h))
  | endMotionDrain known hport =>
    obtain ⟨hcons, hserves⟩ := MotionPort.endDrain_consistent hs.1 hport known
    exact ⟨hcons, hserves.trans hs.2⟩
  | preparationFault why =>
    exact State.preparationFault_motionConsistent hs.1 (fun h => (hs.free h).2) why (fun h => hpathFits.job_isSome (.inl h))
  | tryOpen => exact State.tryOpen_motionConsistent hs
  | pulse openMs => exact State.pulse_motionConsistent hs openMs
  | endGate => exact State.tryOpen_motionConsistent (by exact hs)
  | endRemoved j _ hpath =>
    rcases hpath with hpath | hpath
    · exact State.endRemoved_motionConsistent_of_preparing hs.1 j hpath
    · exact State.endRemoved_motionConsistent_of_exposing hs j hpath
  | haltPreparing j =>
    obtain ⟨hseq, -, -, hmotion⟩ := s.endPreparing_path j .halted .none
    exact State.motionConsistent_of_abandoned hs.1 hmotion hseq (by simp)
  | endSpoiled j openMs path why _ hpath _ hend =>
    obtain ⟨hseq, -, -, hmotion⟩ := s.endSpoiled_path j openMs path why hpath
    refine State.motionConsistent_of_path hs hmotion (State.not_awaitsMove (by simp [hpath])) (State.not_awaitsMove ?_)
    rcases hend with ⟨rfl, -⟩ | ⟨rfl, -⟩ <;> simp [hseq, Sequencer.stopped]
  | endReturned j openMs path why _ hpath _ hend =>
    obtain ⟨hseq, -, -, hmotion⟩ := s.endReturned_path j openMs path why hpath
    refine State.motionConsistent_of_path hs hmotion (State.not_awaitsMove (by simp [hpath])) (State.not_awaitsMove ?_)
    rcases hend with ⟨rfl, -⟩ | ⟨rfl, -⟩ <;> simp [hseq, Sequencer.stopped]
  | settlePlate | deleteNext | endDeletion | closeMaster | release | place | rekeyWithin | rekeyMove | retire | replace | takeWord | stream
  | endFill | endDrain | flushPort | turnOutbound | turnInbound | beginListing | sendHighHalf =>
    exact State.motionConsistent_congr (by simp) (by simp [State.awaitsMove]) hs
  | tellPins | tellPlate | dropReport | openMaster | setClass | queueListing | awaitGate | startGate | setTables | startPeriod
  | takeLowHalf | sendLowHalf | showStrobe => exact hs

/-- Settles O57: every work keeps the path, and the motion port in agreement with it, so every command does. -/
theorem stepKeepsThePath : Obligations.StepKeepsThePath :=
  fun _ _ hpath hmotion h => step_preserves_film (P := fun s => s.pathConsistent ∧ s.motionConsistent)
    (fun _ _ hworks hs => ⟨hworks.keeps_path hs.1, hworks.keeps_motion hs.1 hs.2⟩)
    (fun s phase p plates rec _ => ⟨s.hardReset_pathConsistent phase p plates rec, s.hardReset_motionConsistent phase p plates rec⟩)
    (fun _ _ _ _ _ hs => hs) h ⟨hpath, hmotion⟩

end Sys2Proof.Machine

/-! Banks: what each operation of the Panel Store leaves in a bank and in the loaded-job queue, and the words of the bank memories, which only a
fill writes (first half of O55). -/

namespace Sys2Proof.Machine

/-! ## One bank read after a change of one bank -/

theorem BankId.ne_iff {id o : BankId} : o ≠ id ↔ o = (match id with | .a => .b | .b => .a) := by cases id <;> cases o <;> decide

@[simp] theorem PanelStore.bank_setBank_same (p : PanelStore) (id : BankId) (b : Bank) : (p.setBank id b).bank id = b := by cases id <;> rfl

@[simp] theorem PanelStore.bank_setBank_ne (p : PanelStore) {id o : BankId} (h : o ≠ id) (b : Bank) : (p.setBank id b).bank o = p.bank o := by
  obtain rfl := BankId.ne_iff.mp h
  cases id <;> rfl

@[simp] theorem PanelStore.setBank_queue (p : PanelStore) (id : BankId) (b : Bank) : (p.setBank id b).queue = p.queue := by cases id <;> rfl

/-- The queue and the lines are no part of a bank. -/
@[simp] theorem PanelStore.bank_withQueue (p : PanelStore) (q : List BankId) (o : BankId) : ({ p with queue := q } : PanelStore).bank o = p.bank o := by
  cases o <;> rfl

@[simp] theorem State.setBank_bank_same (s : State) (id : BankId) (b : Bank) : (s.setBank id b).bank id = b := s.panel.bank_setBank_same id b

@[simp] theorem State.setBank_bank_ne (s : State) {id o : BankId} (h : o ≠ id) (b : Bank) : (s.setBank id b).bank o = s.bank o :=
  s.panel.bank_setBank_ne h b

@[simp] theorem State.freeBank_bank_same (s : State) (id : BankId) :
    (s.freeBank id).bank id = { s.bank id with state := .free, binding := none } := by cases id <;> rfl

@[simp] theorem State.freeBank_bank_ne (s : State) {id o : BankId} (h : o ≠ id) : (s.freeBank id).bank o = s.bank o := by
  obtain rfl := BankId.ne_iff.mp h
  cases id <;> rfl

@[simp] theorem State.freeBank_queue (s : State) (id : BankId) :
    (s.freeBank id).panel.queue = s.panel.queue.filter (fun q => decide (q ≠ id)) := rfl

@[simp] theorem State.orphanBank_bank_same (s : State) (id : BankId) : (s.orphanBank id).bank id = { s.bank id with binding := none } :=
  s.setBank_bank_same id _

@[simp] theorem State.orphanBank_bank_ne (s : State) {id o : BankId} (h : o ≠ id) : (s.orphanBank id).bank o = s.bank o :=
  s.setBank_bank_ne h _

@[simp] theorem State.orphanBank_queue (s : State) (id : BankId) : (s.orphanBank id).panel.queue = s.panel.queue := s.panel.setBank_queue id _

@[simp] theorem State.loadBank_bank_same (s : State) (id : BankId) : (s.loadBank id).bank id = { s.bank id with state := .loaded } := by
  cases id <;> rfl

@[simp] theorem State.loadBank_bank_ne (s : State) {id o : BankId} (h : o ≠ id) : (s.loadBank id).bank o = s.bank o := by
  obtain rfl := BankId.ne_iff.mp h
  cases id <;> rfl

@[simp] theorem State.loadBank_queue (s : State) (id : BankId) : (s.loadBank id).panel.queue = s.panel.queue ++ [id] := rfl

@[simp] theorem State.returnBank_bank_same (s : State) (id : BankId) : (s.returnBank id).bank id = { s.bank id with state := .loaded } := by
  cases id <;> rfl

@[simp] theorem State.returnBank_bank_ne (s : State) {id o : BankId} (h : o ≠ id) : (s.returnBank id).bank o = s.bank o := by
  obtain rfl := BankId.ne_iff.mp h
  cases id <;> rfl

@[simp] theorem State.returnBank_queue (s : State) (id : BankId) : (s.returnBank id).panel.queue = id :: s.panel.queue := rfl

@[simp] theorem State.showBank_bank_same (s : State) (id : BankId) (rest : List BankId) :
    (s.showBank id rest).bank id = { s.bank id with state := .shown } := by
  cases id <;> rfl

@[simp] theorem State.showBank_bank_ne (s : State) {id o : BankId} (h : o ≠ id) (rest : List BankId) : (s.showBank id rest).bank o = s.bank o := by
  obtain rfl := BankId.ne_iff.mp h
  cases id <;> rfl

@[simp] theorem State.showBank_queue (s : State) (id : BankId) (rest : List BankId) : (s.showBank id rest).panel.queue = rest := rfl

theorem State.bank_congr {s t : State} (h : t.panel = s.panel) (o : BankId) : t.bank o = s.bank o := by rw [State.bank, State.bank, h]

/-! ## The words of the banks -/

/-- Both bank memories have the form, said of each bank. -/
theorem State.memoryConsistent_iff (s : State) : s.memoryConsistent ↔ ∀ o, Memory.wf (s.bank o).words :=
  ⟨fun h o => match o with | .a => h.1 | .b => h.2, fun h => ⟨h .a, h .b⟩⟩

/-- The words of both banks. -/
def State.words (s : State) (o : BankId) : List BankCell := (s.bank o).words

theorem State.memoryConsistent_congr {s t : State} (h : t.words = s.words) (hs : s.memoryConsistent) : t.memoryConsistent := by
  rw [State.memoryConsistent_iff] at hs ⊢
  intro o
  have ho : (t.bank o).words = (s.bank o).words := congrFun h o
  exact ho ▸ hs o

theorem State.words_of_panel {s t : State} (h : t.panel = s.panel) : t.words = s.words := funext fun o => by
  rw [State.words, State.words, State.bank_congr h]

theorem State.setBank_words (s : State) (id : BankId) {b : Bank} (h : b.words = (s.bank id).words) : (s.setBank id b).words = s.words := by
  funext o
  by_cases ho : o = id
  · subst ho; simp [State.words, h]
  · simp [State.words, ho]

@[simp] theorem State.freeBank_words (s : State) (id : BankId) : (s.freeBank id).words = s.words := by
  funext o; cases id <;> cases o <;> rfl

@[simp] theorem State.orphanBank_words (s : State) (id : BankId) : (s.orphanBank id).words = s.words := s.setBank_words id rfl

@[simp] theorem State.loadBank_words (s : State) (id : BankId) : (s.loadBank id).words = s.words := by
  funext o; cases id <;> cases o <;> rfl

@[simp] theorem State.returnBank_words (s : State) (id : BankId) : (s.returnBank id).words = s.words := by
  funext o; cases id <;> cases o <;> rfl

@[simp] theorem State.showBank_words (s : State) (id : BankId) (rest : List BankId) : (s.showBank id rest).words = s.words := by
  funext o; cases id <;> cases o <;> rfl

@[simp] theorem State.letGo_words (s : State) (id : BankId) : (s.letGo id).words = s.words := by
  unfold State.letGo; split <;> simp

@[simp] theorem State.releaseBanksOf_words (s : State) (sl : Slot) : (s.releaseBanksOf sl).words = s.words := by
  have hone : ∀ (t : State) id, (t.releaseBankOf sl id).words = t.words := by
    intro t id; unfold State.releaseBankOf; split <;> simp
  simp [State.releaseBanksOf, hone]

@[simp] theorem State.releaseRecordBanks_words (s : State) (h : Handle) : (s.releaseRecordBanks h).words = s.words := by
  have hone : ∀ (t : State) id, (t.releaseRecordBank h id).words = t.words := by
    intro t id; unfold State.releaseRecordBank; split <;> simp
  simp [State.releaseRecordBanks, hone]

@[simp] theorem State.retireRecord_words (s : State) (r : Record) : (s.retireRecord r).words = s.words := by
  have hdelete : ∀ (t : State) c, (t.deleteRecord r c).words = t.words := fun t c => State.words_of_panel (by simp)
  unfold State.retireRecord
  split
  case h_2 | h_3 => simp [hdelete]
  all_goals exact State.words_of_panel (by simp)

@[simp] theorem State.removeLivePlate_words (s : State) (sl : Slot) : (s.removeLivePlate sl).words = s.words :=
  (State.words_of_panel (s := s.releaseBanksOf sl) (by simp [State.removeLivePlate, State.failMaster, State.loseRecords])).trans (by simp)

@[simp] theorem State.enterReleasing_words (s : State) (sl : Slot) : (s.enterReleasing sl).words = s.words :=
  (State.words_of_panel (s := s.releaseBanksOf sl) (by simp [State.enterReleasing])).trans (by simp)

@[simp] theorem State.settleHeader_words (s : State) (id : BankId) (h : Header) (v : Verdict) : (s.settleHeader id h v).words = s.words := by
  cases v with
  | bind bd =>
    have hbank : (s.bindOwner id bd).bank = s.bank := funext fun o => State.bank_congr (by simp) o
    refine (State.words_of_panel (s := (s.bindOwner id bd).setBank id _) rfl).trans ?_
    exact (State.setBank_words _ id (by rw [hbank])).trans (State.words_of_panel (by simp))
  | drain why => rfl
  | discard why => rfl

@[simp] theorem State.settleFill_words (s : State) (f : Fill) : (s.settleFill f).words = s.words := by
  unfold State.settleFill
  split
  · simp
  next bd _ =>
    split
    · split
      · split
        · exact (State.words_of_panel (s := s.loadBank f.bank) (by simp)).trans (by simp)
        · simp
      · simp
      · simp
    · exact (State.words_of_panel (s := s.freeBank f.bank) (by simp)).trans (by simp)

@[simp] theorem State.flushPort_words (s : State) : s.flushPort.words = s.words := by
  have hfill : s.abandonFill.words = s.words := by
    unfold State.abandonFill
    split
    next f _ =>
      split
      · exact (State.words_of_panel (s := s.freeBank f.bank) (by simp)).trans (by simp)
      · simp
    all_goals rfl
  exact (State.words_of_panel (s := s.abandonFill) (by simp [State.flushPort])).trans hfill

/-- What follows a job take in the words is nothing: a take shows the bank as it is. -/
@[simp] theorem State.takeJob_words (s : State) : s.takeJob.words = s.words := by
  rcases s.takeJob_cases with heq | ⟨id, rest, kind, sl, factor, f, -, -, -, -, -, heq⟩
  · rw [heq]
  · rw [heq]
    have hshow := (s.takeRecord kind (doseClamped (s.dose.baseOf f.format) factor (s.dose.trimOf sl))).showBank_words id rest
    exact (State.words_of_panel rfl).trans (hshow.trans (State.words_of_panel (by simp)))

@[simp] theorem State.ownersReturned_words (s : State) (j : Job) : (s.ownersReturned j).words = s.words := by
  unfold State.ownersReturned
  split
  · unfold State.recordReturned
    split
    · split
      · exact (State.words_of_panel (s := s.freeBank j.bank) (by simp)).trans (by simp)
      · exact (State.returnBank_words _ _).trans (State.words_of_panel (by simp))
    · simp
  · simp
  · simp

@[simp] theorem State.ownersExposed_words (s : State) (j : Job) : (s.ownersExposed j).words = s.words := State.words_of_panel (by simp)

@[simp] theorem State.ownersSpoiled_words (s : State) (j : Job) : (s.ownersSpoiled j).words = s.words := by
  have hspoil : ∀ (t : State) sl why, (t.spoilMaster sl why).words = t.words := by
    intro t sl why
    unfold State.spoilMaster
    split
    · exact (State.words_of_panel (s := t.releaseBanksOf sl) (by simp [State.failMaster])).trans (by simp)
    · rfl
  unfold State.ownersSpoiled
  split
  · unfold State.recordSpoiled
    split
    · split <;> exact State.words_of_panel (by simp)
    · rfl
  · rw [hspoil]; exact State.words_of_panel (by simp)
  · rw [hspoil]

/-! ## The memories keep their form -/

/-- A bank given well-formed words. -/
theorem State.setBank_memory {s : State} (hs : s.memoryConsistent) (id : BankId) {b : Bank} (hb : Memory.wf b.words) :
    (s.setBank id b).memoryConsistent := by
  rw [State.memoryConsistent_iff] at hs ⊢
  intro o
  by_cases ho : o = id
  · subst ho; simpa using hb
  · simpa [ho] using hs o

theorem State.streamGo_memory {s : State} (hs : s.memoryConsistent) : s.streamGo.memoryConsistent := by
  have hhead : s.takeHeader.memoryConsistent := State.memoryConsistent_congr (State.words_of_panel (by simp)) hs
  have hexam : s.takeHeader.examineHeader.memoryConsistent := by
    rcases s.takeHeader.examineHeader_cases with heq | ⟨id, w0, w1, w2, w3, rest, _, _, _, heq⟩
    · rwa [heq]
    · rw [heq]
      exact State.memoryConsistent_congr ((State.settleHeader_words _ _ _ _).trans (State.words_of_panel rfl)) hhead
  unfold State.streamGo State.consume
  split
  next f _ =>
    exact State.setBank_memory hexam f.bank (moveData_wf _ f _ ((State.memoryConsistent_iff _).mp hexam f.bank))
  all_goals exact hexam

/-- The last data word of a raster has its address inside the bank (R77, R91). -/
theorem State.finishFill_memory {s : State} (hs : s.memoryConsistent) {f : Fill} (w : Word) (rest : List Word) (hlast : f.count + 1 = f.words) :
    (s.finishFill f w rest).memoryConsistent := by
  have haddr : f.count < Config.bankWords := by
    have hrows := f.rows.isLt
    simp only [Fill.words, Config.rowWords] at hlast
    simp only [Config.bankWords]
    omega
  have hwf := Memory.write_wf (s.bank f.bank).words f.count w haddr ((State.memoryConsistent_iff s).mp hs f.bank)
  have hset := State.setBank_memory hs f.bank (b := { s.bank f.bank with words := Memory.write (s.bank f.bank).words f.count w }) hwf
  exact State.memoryConsistent_congr ((State.settleFill_words _ _).trans (State.words_of_panel rfl)) hset

theorem State.endRemoved_memory {s : State} (hs : s.memoryConsistent) (j : Job) : (s.endRemoved j).memoryConsistent := by
  refine State.streamGo_memory (State.memoryConsistent_congr ((State.freeBank_words _ _).trans ?_) hs)
  split
  · funext o; cases o <;> rfl
  · exact State.words_of_panel (by simp)

theorem State.endPreparing_memory {s : State} (hs : s.memoryConsistent) (j : Job) (path : PathState) (why : PathFault) :
    (s.endPreparing j path why).memoryConsistent := by
  refine State.streamGo_memory (State.memoryConsistent_congr ((State.ownersReturned_words _ _).trans ?_) hs)
  funext o; cases o <;> rfl

theorem State.endSpoiled_memory {s : State} (hs : s.memoryConsistent) (j : Job) (openMs : Nat) (path : PathState) (why : PathFault) :
    (s.endSpoiled j openMs path why).memoryConsistent :=
  State.streamGo_memory (State.memoryConsistent_congr
    ((State.ownersSpoiled_words _ _).trans ((State.freeBank_words _ _).trans (State.words_of_panel (by simp)))) hs)

theorem State.endReturned_memory {s : State} (hs : s.memoryConsistent) (j : Job) (openMs : Nat) (path : PathState) (why : PathFault) :
    (s.endReturned j openMs path why).memoryConsistent :=
  State.streamGo_memory (State.memoryConsistent_congr ((State.ownersReturned_words _ _).trans (State.words_of_panel (by simp))) hs)

theorem State.endedExposed_memory {s : State} (hs : s.memoryConsistent) (j : Job) (openMs : Nat) : (s.endedExposed j openMs).memoryConsistent :=
  State.streamGo_memory (State.memoryConsistent_congr
    ((State.ownersExposed_words _ _).trans ((State.freeBank_words _ _).trans (State.words_of_panel (by simp)))) hs)

theorem State.preparationFault_memory {s : State} (hs : s.memoryConsistent) (why : PathFault) : (s.preparationFault why).memoryConsistent := by
  unfold State.preparationFault
  split
  · split
    · exact State.endRemoved_memory hs _
    · exact State.endPreparing_memory hs _ _ _
  · exact hs

theorem State.tryOpen_memory {s : State} (hs : s.memoryConsistent) : s.tryOpen.memoryConsistent := by
  unfold State.tryOpen
  split
  · split
    · split
      · exact State.endRemoved_memory hs _
      · exact hs
    · exact hs
  · exact hs

theorem State.pulse_memory {s : State} (hs : s.memoryConsistent) (openMs : Nat) : (s.pulse openMs).memoryConsistent := by
  unfold State.pulse
  split
  · split
    · unfold State.reachTarget
      dsimp only
      split
      · exact State.endRemoved_memory (by exact hs) _
      · rw [State.endExposed_eq_takeJob]
        exact State.memoryConsistent_congr (State.takeJob_words _) (State.endedExposed_memory (by exact hs) _ _)
    · exact hs
  · exact hs

theorem State.settlePlate_memory {s : State} (hs : s.memoryConsistent) (sl : Slot) : (s.settlePlate sl).memoryConsistent := by
  unfold State.settlePlate
  dsimp only
  split
  · exact hs
  · split
    · exact hs
    · split
      · unfold State.plateInserted; split <;> exact hs
      · unfold State.plateRemoved
        split
        case h_1 | h_2 => exact hs
        case h_3 | h_4 | h_5 | h_6 | h_7 => exact State.streamGo_memory (State.memoryConsistent_congr (State.removeLivePlate_words _ _) hs)
        case h_8 => exact State.streamGo_memory (State.memoryConsistent_congr (State.enterReleasing_words _ _) hs)
        all_goals exact hs

/-- Every work keeps the form of the bank memories. -/
theorem State.Works.keeps_memory {s t : State} (h : s.Works t) (hs : s.memoryConsistent) : t.memoryConsistent := by
  cases h with
  | settlePlate sl => exact State.settlePlate_memory hs sl
  | release sl => exact State.streamGo_memory (State.memoryConsistent_congr (State.enterReleasing_words _ _) hs)
  | retire h r => exact State.streamGo_memory (State.memoryConsistent_congr (State.retireRecord_words _ _) hs)
  | takeWord => exact State.streamGo_memory (by exact hs)
  | stream => exact State.streamGo_memory hs
  | endFill f w rest _ _ hlast => exact State.streamGo_memory (State.finishFill_memory hs w rest hlast)
  | endDrain => exact State.streamGo_memory (by exact hs)
  | flushPort => exact State.memoryConsistent_congr s.flushPort_words hs
  | takeJob => exact State.memoryConsistent_congr s.takeJob_words hs
  | panelReady =>
    unfold State.reportPanelReady
    split
    · exact State.tryOpen_memory (by exact hs)
    · exact hs
  | arrive =>
    unfold State.reportArrived
    split
    · exact State.tryOpen_memory (by exact hs)
    · exact hs
  | failMove why => exact State.preparationFault_memory (by exact hs) why
  | preparationFault why => exact State.preparationFault_memory hs why
  | tryOpen => exact State.tryOpen_memory hs
  | pulse openMs => exact State.pulse_memory hs openMs
  | endGate => exact State.tryOpen_memory (by exact hs)
  | endRemoved j => exact State.endRemoved_memory hs j
  | haltPreparing j => exact State.endPreparing_memory hs j _ _
  | endSpoiled j => exact State.endSpoiled_memory hs j _ _ _
  | endReturned j => exact State.endReturned_memory hs j _ _ _
  | haltPath => unfold State.haltPath; split <;> exact hs
  | setLamp => unfold State.setLamp; split <;> exact hs
  | deleteNext | endDeletion | closeMaster | place | rekeyWithin | rekeyMove | replace | turnOutbound | turnInbound | beginListing
  | sendHighHalf => exact State.memoryConsistent_congr (State.words_of_panel (by simp)) hs
  | tellPins | tellPlate | dropReport | openMaster | setClass | queueListing | resume | awaitGate | startGate
  | setTables | startPeriod | takeLowHalf | sendLowHalf | showStrobe | goMove | endMotionDrain | haltIdle => exact hs

end Sys2Proof.Machine

/-! O55, the banks: each bank's state beside its binding, the loaded-job queue, the decoder and the job, through every operation of the Panel
Store and of the stream. -/

namespace Sys2Proof.Machine

/-! ## The Panel Store as it must be -/

/-- One bank as it must be beside the queue, the decoder and the job (R91, R92, R95). -/
def Bank.fits (b : Bank) (queued filling shown : Prop) : Prop :=
  (queued ↔ b.state = .loaded) ∧ (b.state = .free → b.binding = none) ∧
    (b.state = .loaded ∨ b.state = .shown → b.binding.isSome = true) ∧ (b.state = .filling ↔ filling) ∧ (b.state = .shown ↔ shown)

/-- The Panel Store as it must be beside the bank that the decoder fills and the bank that the job shows. -/
def PanelStore.fits (p : PanelStore) (fill shown : Option BankId) : Prop :=
  p.queue.Nodup ∧ ∀ id, (p.bank id).fits (id ∈ p.queue) (fill = some id) (shown = some id)

/-- A job stands exactly in PREPARING and EXPOSING (R105). -/
def State.jobStands (s : State) : Prop := s.seq.job.isSome = true ↔ s.seq.path = .preparing ∨ s.seq.path = .exposing

/-- The bank of the job. -/
def State.shownBank (s : State) : Option BankId := s.seq.job.map (·.bank)

theorem State.panelConsistent_iff (s : State) :
    s.panelConsistent ↔ s.panel.fits s.raster.decoder.fillBank s.shownBank ∧ s.jobStands := by
  constructor
  · rintro ⟨hnodup, ha, hb, hjob⟩
    exact ⟨⟨hnodup, fun id => match id with | .a => ha | .b => hb⟩, hjob⟩
  · rintro ⟨⟨hnodup, hbanks⟩, hjob⟩
    exact ⟨hnodup, hbanks .a, hbanks .b, hjob⟩

variable {p q : PanelStore} {fill shown fill' shown' : Option BankId}

/-- A change of one bank, of its place in the queue, and of whether it is the decoder's or the job's. -/
theorem PanelStore.fits.change (h : p.fits fill shown) (id : BankId) (hnodup : q.queue.Nodup)
    (hid : (q.bank id).fits (id ∈ q.queue) (fill' = some id) (shown' = some id))
    (hother : ∀ o, o ≠ id → q.bank o = p.bank o ∧ (o ∈ q.queue ↔ o ∈ p.queue) ∧ (fill' = some o ↔ fill = some o) ∧
      (shown' = some o ↔ shown = some o)) : q.fits fill' shown' := by
  refine ⟨hnodup, fun o => ?_⟩
  by_cases ho : o = id
  · exact ho ▸ hid
  · obtain ⟨hbank, hqueue, hfill, hshown⟩ := hother o ho
    rw [hbank, hqueue, hfill, hshown]
    exact h.2 o

/-- The Panel Store read through states and bindings alone. -/
theorem PanelStore.fits.congr (h : p.fits fill shown) (hqueue : q.queue = p.queue)
    (hbanks : ∀ o, (q.bank o).state = (p.bank o).state ∧ (q.bank o).binding = (p.bank o).binding) : q.fits fill shown := by
  refine ⟨hqueue ▸ h.1, fun o => ?_⟩
  obtain ⟨hstate, hbinding⟩ := hbanks o
  have ho := h.2 o
  unfold Bank.fits at ho ⊢
  rwa [hqueue, hstate, hbinding]

/-! ## Operations on one bank -/

variable {s : State}

/-- A bank freed, with the decoder and the job no longer at it (R95, R98). -/
theorem State.freeBank_fits (h : s.panel.fits fill shown) (id : BankId) (hfill : ∀ o, fill' = some o ↔ fill = some o ∧ o ≠ id)
    (hshown : ∀ o, shown' = some o ↔ shown = some o ∧ o ≠ id) : (s.freeBank id).panel.fits fill' shown' := by
  refine h.change id (h.1.filter _) ?_ (fun o ho => ⟨s.freeBank_bank_ne ho, ?_, ?_, ?_⟩)
  · have hbank : (s.freeBank id).panel.bank id = _ := s.freeBank_bank_same id
    rw [hbank]
    simp [Bank.fits, hfill, hshown]
  · simp [ho]
  · simp [hfill, ho]
  · simp [hshown, ho]

theorem State.orphanBank_fits (h : s.panel.fits fill shown) {id : BankId} (hst : (s.bank id).state = .filling) :
    (s.orphanBank id).panel.fits fill shown := by
  refine h.change id ((s.orphanBank_queue id) ▸ h.1) ?_ (fun o ho => ⟨s.orphanBank_bank_ne ho, by simp, Iff.rfl, Iff.rfl⟩)
  have hbank : (s.orphanBank id).panel.bank id = _ := s.orphanBank_bank_same id
  obtain ⟨hqueued, hfree, -, hfilling, hshown⟩ := h.2 id
  rw [hbank, s.orphanBank_queue]
  exact ⟨hqueued, fun _ => rfl, by simp [hst], hfilling, hshown⟩

/-- R94, R98: letting a bank go. -/
theorem State.letGo_fits (h : s.panel.fits fill shown) (id : BankId) : (s.letGo id).panel.fits fill shown := by
  obtain ⟨-, -, -, hfilling, hshown⟩ := h.2 id
  unfold State.letGo
  split
  next hst =>
    have hst : (s.panel.bank id).state = .loaded := hst
    refine State.freeBank_fits h id (fun o => ?_) (fun o => ?_)
    · refine (and_iff_left_of_imp fun hfill => ?_).symm
      rintro rfl
      simp [hst, hfill] at hfilling
    · refine (and_iff_left_of_imp fun hsh => ?_).symm
      rintro rfl
      simp [hst, hsh] at hshown
  next hst => exact State.orphanBank_fits h hst
  · exact h
  · exact h

theorem State.releaseBanksOf_fits (h : s.panel.fits fill shown) (sl : Slot) : (s.releaseBanksOf sl).panel.fits fill shown := by
  have hone : ∀ {u : State} id, u.panel.fits fill shown → (u.releaseBankOf sl id).panel.fits fill shown := by
    intro u id hu
    unfold State.releaseBankOf
    split
    · exact State.letGo_fits hu id
    · exact hu
  exact hone .b (hone .a h)

theorem State.releaseRecordBanks_fits (h : s.panel.fits fill shown) (k : Handle) : (s.releaseRecordBanks k).panel.fits fill shown := by
  have hone : ∀ {u : State} id, u.panel.fits fill shown → (u.releaseRecordBank k id).panel.fits fill shown := by
    intro u id hu
    unfold State.releaseRecordBank
    split
    · exact State.letGo_fits hu id
    · exact hu
  exact hone .b (hone .a h)

/-- A bank that leaves the job or the decoder for the queue, with its binding (R95, R97). -/
theorem PanelStore.fits.queued (h : p.fits fill shown) {id : BankId} (hout : id ∉ p.queue) (hbinding : (p.bank id).binding.isSome = true)
    (hqueue : q.queue = p.queue ++ [id] ∨ q.queue = id :: p.queue) (hid : q.bank id = { p.bank id with state := .loaded })
    (hne : ∀ o, o ≠ id → q.bank o = p.bank o) (hfill : ∀ o, fill' = some o ↔ fill = some o ∧ o ≠ id)
    (hshown : ∀ o, shown' = some o ↔ shown = some o ∧ o ≠ id) : q.fits fill' shown' := by
  have hmem : ∀ o, o ∈ q.queue ↔ o = id ∨ o ∈ p.queue := by
    rcases hqueue with hqueue | hqueue <;> simp [hqueue, or_comm]
  refine h.change id ?_ ?_ (fun o ho => ⟨hne o ho, by simp [hmem, ho], by simp [hfill, ho], by simp [hshown, ho]⟩)
  · rcases hqueue with hqueue | hqueue <;> rw [hqueue]
    · exact List.nodup_append.mpr
        ⟨h.1, List.nodup_singleton id, fun x hx y hy hxy => hout (List.mem_singleton.mp hy ▸ hxy ▸ hx)⟩
    · exact List.nodup_cons.mpr ⟨hout, h.1⟩
  · simp [Bank.fits, hid, hmem, hfill, hshown, hbinding]

/-! ## The stream -/

theorem State.settleHeader_fits (h : s.panel.fits none shown) {id : BankId} (hfree : (s.bank id).state = .free) (hd : Header) (v : Verdict) :
    (s.settleHeader id hd v).panel.fits (s.settleHeader id hd v).raster.decoder.fillBank shown := by
  cases v with
  | drain why => exact h
  | discard why => exact h
  | bind bd =>
    have hpanel : (s.bindOwner id bd).panel = s.panel := by simp
    obtain ⟨hqueued, -, -, -, hshown⟩ := h.2 id
    have hfree : (s.panel.bank id).state = .free := hfree
    refine h.change id ?_ ?_ (fun o ho => ⟨?_, ?_, ?_, Iff.rfl⟩)
    · simpa [State.settleHeader, State.bindHeader, State.setBank] using h.1
    · have hno : id ∉ s.panel.queue := fun hq => by simp [hfree] at hqueued; exact hqueued hq
      have hnot : shown ≠ some id := fun hsh => by simp [hfree, hsh] at hshown
      simp [State.settleHeader, State.bindHeader, State.setBank, Bank.fits, Decoder.fillBank, hno, hnot]
    · simp [State.settleHeader, State.bindHeader, State.setBank, ho]
    · simp [State.settleHeader, State.bindHeader, State.setBank]
    · simp [State.settleHeader, State.bindHeader, Decoder.fillBank, ho.symm]

theorem State.takeHeader_fillBank (s : State) : s.takeHeader.raster.decoder.fillBank = s.raster.decoder.fillBank := by
  rcases s.takeHeader_cases with heq | ⟨hdec, -, heq⟩ <;> simp [heq]
  simp [hdec, Decoder.fillBank]

theorem State.streamGo_fits (h : s.panel.fits s.raster.decoder.fillBank shown) : s.streamGo.panel.fits s.streamGo.raster.decoder.fillBank shown := by
  have hhead : s.takeHeader.panel.fits s.takeHeader.raster.decoder.fillBank shown := by
    rw [s.takeHeader_fillBank]
    simpa using h
  have hexam : s.takeHeader.examineHeader.panel.fits s.takeHeader.examineHeader.raster.decoder.fillBank shown := by
    rcases s.takeHeader.examineHeader_cases with heq | ⟨id, w0, w1, w2, w3, rest, hwait, hfree, _, heq⟩
    · rwa [heq]
    · rw [hwait] at hhead
      rw [heq]
      exact State.settleHeader_fits (s := { s.takeHeader with raster := { s.takeHeader.raster with fifo := rest } }) hhead
        (State.freeBankId?_some _ _ hfree) _ _
  unfold State.streamGo State.consume
  split
  next f hdec =>
    rw [hdec] at hexam
    obtain ⟨hbank, -⟩ := moveData_fill s.takeHeader.examineHeader.raster.fifo f (s.takeHeader.examineHeader.bank f.bank).words
    simp only [State.moveFill, State.setBank, Decoder.fillBank, hbank]
    refine hexam.congr (PanelStore.setBank_queue _ _ _) (fun o => ?_)
    by_cases ho : o = f.bank
    · subst ho; simp [State.bank]
    · simp [ho]
  next left hdec => simpa [hdec, Decoder.fillBank] using hexam
  next hdec => simpa [hdec, Decoder.fillBank] using hexam
  all_goals exact hexam

theorem State.settleFill_fits {f : Fill} (h : s.panel.fits (some f.bank) shown) : (s.settleFill f).panel.fits none shown := by
  obtain ⟨hqueued, -, -, hfilling, hshown⟩ := h.2 f.bank
  have hst : (s.panel.bank f.bank).state = .filling := hfilling.mpr rfl
  have hnot : shown ≠ some f.bank := fun hsh => by simp [hst, hsh] at hshown
  have hout : f.bank ∉ s.panel.queue := fun hq => by simp [hst] at hqueued; exact hqueued hq
  have hnone : ∀ o, (none : Option BankId) = some o ↔ some f.bank = some o ∧ o ≠ f.bank := fun o => by simp +contextual [eq_comm]
  have hsame : ∀ o, shown = some o ↔ shown = some o ∧ o ≠ f.bank := fun o =>
    (and_iff_left_of_imp fun hsh => by rintro rfl; exact hnot hsh).symm
  have hfreed := State.freeBank_fits h f.bank hnone hsame
  have hloaded : (s.bank f.bank).binding.isSome = true → (s.loadBank f.bank).panel.fits none shown := fun hb =>
    h.queued hout hb (.inl rfl) (s.loadBank_bank_same f.bank) (fun o ho => s.loadBank_bank_ne ho) hnone hsame
  unfold State.settleFill
  split
  · exact hfreed
  next bd hbinding =>
    have hload := hloaded (by simp [hbinding])
    split
    · split
      · split <;> exact hload
      · exact hload
      · exact hload
    · simpa using hfreed

theorem State.finishFill_fits {f : Fill} (h : s.panel.fits (some f.bank) shown) (w : Word) (rest : List Word) :
    (s.finishFill f w rest).panel.fits (s.finishFill f w rest).raster.decoder.fillBank shown := by
  have hset : ∀ b : Bank, b.state = (s.bank f.bank).state → b.binding = (s.bank f.bank).binding →
      (s.setBank f.bank b).panel.fits (some (f.move w).bank) shown := by
    intro b hstate hbinding
    refine h.congr (PanelStore.setBank_queue _ _ _) (fun o => ?_)
    by_cases ho : o = f.bank
    · subst ho; simpa [State.setBank] using ⟨hstate, hbinding⟩
    · simp [State.setBank, ho]
  have hdecoder : (s.finishFill f w rest).raster.decoder = .header := by
    have hsettle : ∀ (u : State) g, (u.settleFill g).raster.decoder = u.raster.decoder := by
      intro u g
      unfold State.settleFill
      split
      · rfl
      · split
        · split
          · split <;> rfl
          · rfl
          · rfl
        · simp [State.rasterFault]
    rw [State.finishFill, hsettle]
  rw [hdecoder]
  exact State.settleFill_fits (s := { s.setBank f.bank _ with raster := _ }) (hset _ rfl rfl)

theorem State.flushPort_fits (h : s.panel.fits s.raster.decoder.fillBank shown) : s.flushPort.panel.fits none shown := by
  have hpanel : s.flushPort.panel = s.abandonFill.panel := by simp [State.flushPort]
  rw [hpanel]
  unfold State.abandonFill
  split
  next f hdec =>
    have h : s.panel.fits (some f.bank) shown := by simpa [hdec, Decoder.fillBank] using h
    obtain ⟨-, -, -, hfilling, hshown⟩ := h.2 f.bank
    have hst : (s.panel.bank f.bank).state = .filling := hfilling.mpr rfl
    have hnot : shown ≠ some f.bank := fun hsh => by simp [hst, hsh] at hshown
    have hfreed : (s.freeBank f.bank).panel.fits none shown :=
      State.freeBank_fits h f.bank (fun o => by simp +contextual [eq_comm])
        (fun o => (and_iff_left_of_imp fun hsh => by rintro rfl; exact hnot hsh).symm)
    split
    · simpa using hfreed
    · exact hfreed
  all_goals
    next hdec => simpa [hdec, Decoder.fillBank] using h

/-! ## Jobs -/

/-- The bank that a dropped job has shown goes back to the queue or is freed. -/
theorem State.ownersReturned_fits {j : Job} (h : s.panel.fits fill (some j.bank)) : (s.ownersReturned j).panel.fits fill none := by
  obtain ⟨hqueued, -, hbound, hfilling, hshown⟩ := h.2 j.bank
  have hst : (s.panel.bank j.bank).state = .shown := hshown.mpr rfl
  have hnot : fill ≠ some j.bank := fun hf => by simp [hst, hf] at hfilling
  have hout : j.bank ∉ s.panel.queue := fun hq => by simp [hst] at hqueued; exact hqueued hq
  have hnone : ∀ o, (none : Option BankId) = some o ↔ some j.bank = some o ∧ o ≠ j.bank := fun o => by simp +contextual [eq_comm]
  have hsame : ∀ o, fill = some o ↔ fill = some o ∧ o ≠ j.bank := fun o =>
    (and_iff_left_of_imp fun hf => by rintro rfl; exact hnot hf).symm
  have hfreed := State.freeBank_fits h j.bank hsame hnone
  have hreturned : ∀ {u : State}, u.panel = s.panel → (u.returnBank j.bank).panel.fits fill none := fun {u} hu =>
    h.queued hout (hbound (.inr hst)) (.inr (by rw [u.returnBank_queue, hu]))
      ((u.returnBank_bank_same j.bank).trans (by rw [State.bank, hu])) (fun o ho => (u.returnBank_bank_ne ho).trans (State.bank_congr hu o))
      hsame hnone
  unfold State.ownersReturned
  split
  · unfold State.recordReturned
    split
    · split
      · simpa using hfreed
      · exact hreturned (by simp)
    · exact hfreed
  · exact hreturned rfl
  · exact hreturned rfl

theorem State.ownersSpoiled_fits (h : s.panel.fits fill shown) (j : Job) : (s.ownersSpoiled j).panel.fits fill shown := by
  have hspoil : ∀ {u : State} sl why, u.panel.fits fill shown → (u.spoilMaster sl why).panel.fits fill shown := by
    intro u sl why hu
    unfold State.spoilMaster
    split
    · exact State.releaseBanksOf_fits hu sl
    · exact hu
  unfold State.ownersSpoiled
  split
  · unfold State.recordSpoiled
    split
    · split <;> simpa using h
    · exact h
  · exact hspoil _ _ (by simpa using h)
  · exact hspoil _ _ h

/-- A bank freed as its job is dropped. -/
theorem State.freeBank_fits_of_shown {id : BankId} (h : s.panel.fits fill (some id)) : (s.freeBank id).panel.fits fill none := by
  obtain ⟨-, -, -, hfilling, hshown⟩ := h.2 id
  have hst : (s.panel.bank id).state = .shown := hshown.mpr rfl
  have hnot : fill ≠ some id := fun hf => by simp [hst, hf] at hfilling
  exact State.freeBank_fits h id (fun o => (and_iff_left_of_imp fun hf => by rintro rfl; exact hnot hf).symm)
    (fun o => by simp +contextual [eq_comm])

/-! ## The ends of a job -/

theorem State.panelConsistent.fits (hs : s.panelConsistent) : s.panel.fits s.raster.decoder.fillBank s.shownBank :=
  (s.panelConsistent_iff.mp hs).1

theorem State.panelConsistent.fits_of_job (hs : s.panelConsistent) {j : Job} (hjob : s.seq.job = some j) :
    s.panel.fits s.raster.decoder.fillBank (some j.bank) := by
  have h := hs.fits
  rwa [State.shownBank, hjob] at h

/-- Banks, decoder and path read: nothing else has a part in the invariant. -/
theorem State.panelConsistent_congr {t : State} (hpanel : t.panel = s.panel) (hfill : t.raster.decoder.fillBank = s.raster.decoder.fillBank)
    (hseq : t.seq = s.seq) (hs : s.panelConsistent) : t.panelConsistent := by
  simpa only [State.panelConsistent_iff, State.shownBank, State.jobStands, hpanel, hfill, hseq] using hs

/-- The sequencer without a job, in the stream's state after an end. -/
theorem State.panelConsistent_of_stopped {t : State} (h : t.panel.fits t.raster.decoder.fillBank none) {path : PathState} {why : PathFault}
    (hseq : t.seq = .stopped path why) (hprep : path ≠ .preparing) (hexp : path ≠ .exposing) : t.panelConsistent := by
  rw [State.panelConsistent_iff, State.shownBank, State.jobStands, hseq]
  exact ⟨h, iff_of_false (by simp [Sequencer.stopped]) (not_or.mpr ⟨hprep, hexp⟩)⟩

theorem State.streamGo_panelConsistent (hs : s.panelConsistent) : s.streamGo.panelConsistent := by
  obtain ⟨hfits, hjob⟩ := s.panelConsistent_iff.mp hs
  have hseq : s.streamGo.seq = s.seq := by simp
  rw [State.panelConsistent_iff, State.shownBank, State.jobStands, hseq]
  exact ⟨State.streamGo_fits hfits, hjob⟩

theorem State.endRemoved_panelConsistent (hs : s.panelConsistent) {j : Job} (hjob : s.seq.job = some j) : (s.endRemoved j).panelConsistent := by
  refine State.panelConsistent_of_stopped (State.streamGo_fits (State.freeBank_fits_of_shown ?_)) (s.endRemoved_seq j) (by simp) (by simp)
  have h := hs.fits_of_job hjob
  have hlines : s.abandonPreparation.panel.fits s.raster.decoder.fillBank (some j.bank) :=
    h.congr rfl (fun o => by cases o <;> exact ⟨rfl, rfl⟩)
  split
  · exact hlines
  · simpa using h

theorem State.endPreparing_panelConsistent (hs : s.panelConsistent) {j : Job} (hjob : s.seq.job = some j) {path : PathState} (why : PathFault)
    (hprep : path ≠ .preparing) (hexp : path ≠ .exposing) : (s.endPreparing j path why).panelConsistent := by
  have hlines : (s.abandonPreparation.dropJob path why).panel.fits s.raster.decoder.fillBank (some j.bank) :=
    (hs.fits_of_job hjob).congr rfl (fun o => by cases o <;> exact ⟨rfl, rfl⟩)
  refine State.panelConsistent_of_stopped (State.streamGo_fits ?_) (s.endPreparing_path j path why).1 hprep hexp
  have hreturned := State.ownersReturned_fits hlines
  simpa using hreturned

theorem State.endSpoiled_panelConsistent (hs : s.panelConsistent) {j : Job} (hjob : s.seq.job = some j) (hpath : s.seq.path = .exposing)
    (openMs : Nat) {path : PathState} (why : PathFault) (hprep : path ≠ .preparing) (hexp : path ≠ .exposing) :
    (s.endSpoiled j openMs path why).panelConsistent := by
  refine State.panelConsistent_of_stopped (State.streamGo_fits ?_) (s.endSpoiled_path j openMs path why hpath).1 hprep hexp
  have hopen : ((s.writeOpenTime j openMs).closeShutter.dropJob path why).panel.fits s.raster.decoder.fillBank (some j.bank) := by
    simpa using hs.fits_of_job hjob
  have hspoiled := State.ownersSpoiled_fits (State.freeBank_fits_of_shown hopen) j
  simpa using hspoiled

theorem State.endReturned_panelConsistent (hs : s.panelConsistent) {j : Job} (hjob : s.seq.job = some j) (hpath : s.seq.path = .exposing)
    (openMs : Nat) {path : PathState} (why : PathFault) (hprep : path ≠ .preparing) (hexp : path ≠ .exposing) :
    (s.endReturned j openMs path why).panelConsistent := by
  refine State.panelConsistent_of_stopped (State.streamGo_fits ?_) (s.endReturned_path j openMs path why hpath).1 hprep hexp
  have hopen : ((s.writeOpenTime j openMs).closeShutter.dropJob path why).panel.fits s.raster.decoder.fillBank (some j.bank) := by
    simpa using hs.fits_of_job hjob
  have hreturned := State.ownersReturned_fits hopen
  simpa using hreturned

theorem State.takeJob_panelConsistent (hs : s.panelConsistent) : s.takeJob.panelConsistent := by
  rcases s.takeJob_cases with heq | ⟨id, rest, kind, sl, factor, f, hpath, -, hqueue, -, -, heq⟩
  · rwa [heq]
  rw [heq]
  obtain ⟨hfits, hstands⟩ := s.panelConsistent_iff.mp hs
  have hnone : s.shownBank = none := by
    have hno : ¬ s.seq.job.isSome = true := fun h => by simpa [hpath] using hstands.mp h
    simpa [State.shownBank] using hno
  rw [hnone] at hfits
  obtain ⟨hqueued, -, hbound, hfilling, -⟩ := hfits.2 id
  obtain ⟨hout, hrest⟩ := List.nodup_cons.mp (hqueue ▸ hfits.1)
  have hst : (s.panel.bank id).state = .loaded := hqueued.mp (by simp [hqueue])
  have hnot : s.raster.decoder.fillBank ≠ some id := fun hf => by simp [hst, hf] at hfilling
  rw [State.panelConsistent_iff]
  refine ⟨?_, iff_of_true rfl (.inl rfl)⟩
  have hraster : (s.takeJobOf id rest kind sl factor f.format).raster = s.raster := by simp
  have hshown : (s.takeJobOf id rest kind sl factor f.format).shownBank = some id := rfl
  have hpanel : (s.takeJobOf id rest kind sl factor f.format).panel = (s.showBank id rest).panel := by
    simp [State.takeJobOf, State.showBank, State.bank]
  rw [hraster, hshown, hpanel]
  refine hfits.change id hrest ?_ (fun o ho => ⟨s.showBank_bank_ne ho rest, ?_, Iff.rfl, ?_⟩)
  · have hbank : (s.showBank id rest).panel.bank id = _ := s.showBank_bank_same id rest
    rw [hbank]
    exact ⟨iff_of_false hout (by simp), by simp, fun _ => hbound (.inl hst), iff_of_false (by simp) hnot, iff_of_true rfl rfl⟩
  · simp [hqueue, ho]
  · simp [Ne.symm ho]

theorem State.preparationFault_panelConsistent (hs : s.panelConsistent) (why : PathFault) : (s.preparationFault why).panelConsistent := by
  unfold State.preparationFault
  split
  next j _ hjob =>
    split
    · exact State.endRemoved_panelConsistent hs hjob
    · exact State.endPreparing_panelConsistent hs hjob why (by simp) (by simp)
  · exact hs

/-- A change of the path and of the job's reports that leaves the job standing with its bank. -/
theorem State.panelConsistent_of_seq (hs : s.panelConsistent) {q : Sequencer} (hbank : q.job.map (·.bank) = s.seq.job.map (·.bank))
    (hpath : q.path = .preparing ∨ q.path = .exposing ↔ s.seq.path = .preparing ∨ s.seq.path = .exposing) :
    ({ s with seq := q } : State).panelConsistent := by
  obtain ⟨hfits, hstands⟩ := s.panelConsistent_iff.mp hs
  rw [State.panelConsistent_iff]
  have hsome : q.job.isSome = s.seq.job.isSome := by simpa using congrArg Option.isSome hbank
  refine ⟨by simpa only [State.shownBank, hbank] using hfits, ?_⟩
  simp only [State.jobStands, hsome, hpath]
  exact hstands

theorem State.tryOpen_panelConsistent (hs : s.panelConsistent) : s.tryOpen.panelConsistent := by
  unfold State.tryOpen
  split
  next j hpath hjob =>
    split
    · split
      · exact State.endRemoved_panelConsistent hs hjob
      · exact State.panelConsistent_of_seq (s := { s with dose := s.dose.openShutter }) hs rfl (by simp [hpath])
    · exact hs
  · exact hs

theorem State.pulse_panelConsistent (hs : s.panelConsistent) (openMs : Nat) : (s.pulse openMs).panelConsistent := by
  unfold State.pulse
  split
  next j _ hpath hjob =>
    split
    · have hcount : ({ s with dose := s.dose.countPulse } : State).panelConsistent := hs
      have hpath' : ({ s with dose := s.dose.countPulse } : State).seq.path = .exposing := hpath
      unfold State.reachTarget
      dsimp only
      split
      · exact State.endRemoved_panelConsistent hcount hjob
      · rw [State.endExposed_eq_takeJob]
        have hseq := (State.endedExposed_path _ j openMs hpath').1
        refine State.takeJob_panelConsistent (State.panelConsistent_of_stopped (State.streamGo_fits ?_) hseq ?_ ?_)
        · have hfreed := State.freeBank_fits_of_shown (hcount.fits_of_job hjob)
          simpa [State.freeBank, State.bank] using hfreed
        all_goals split <;> simp
    · exact hs
  · exact hs

theorem State.reportArrived_panelConsistent (hs : s.panelConsistent) : s.reportArrived.panelConsistent := by
  unfold State.reportArrived
  split
  next j hpath hjob => exact State.tryOpen_panelConsistent (State.panelConsistent_of_seq hs (by simp [hjob]) (by simp))
  · exact hs

theorem State.reportPanelReady_panelConsistent (hs : s.panelConsistent) : s.reportPanelReady.panelConsistent := by
  unfold State.reportPanelReady
  split
  next j hpath hjob => exact State.tryOpen_panelConsistent (State.panelConsistent_of_seq hs (by simp [hjob]) (by simp))
  · exact hs

/-! ## Plates, releases and the port -/

theorem State.panelConsistent_of_fits {t : State} (hs : s.panelConsistent) (hseq : t.seq = s.seq)
    (hfits : t.panel.fits t.raster.decoder.fillBank s.shownBank) : t.panelConsistent := by
  rw [State.panelConsistent_iff, State.shownBank, State.jobStands, hseq]
  exact ⟨hfits, (s.panelConsistent_iff.mp hs).2⟩

theorem State.settlePlate_panelConsistent (hs : s.panelConsistent) (sl : Slot) : (s.settlePlate sl).panelConsistent := by
  unfold State.settlePlate
  dsimp only
  split
  · exact hs
  · split
    · exact hs
    · split
      · unfold State.plateInserted; split <;> exact hs
      · have hreleased : ∀ p : PlateFilter, ((s.setPlate sl p).releaseBanksOf sl).panel.fits s.raster.decoder.fillBank s.shownBank :=
          fun p => State.releaseBanksOf_fits (s := s.setPlate sl p) hs.fits sl
        unfold State.plateRemoved
        split
        case h_1 | h_2 => exact hs
        case h_3 | h_4 | h_5 | h_6 | h_7 =>
          refine State.streamGo_panelConsistent (State.panelConsistent_of_fits hs (by simp) ?_)
          simpa [State.removeLivePlate, State.failMaster, State.loseRecords] using hreleased _
        case h_8 =>
          refine State.streamGo_panelConsistent (State.panelConsistent_of_fits hs (by simp) ?_)
          simpa [State.enterReleasing] using hreleased _
        all_goals exact hs

theorem State.retireRecord_panelConsistent (hs : s.panelConsistent) (r : Record) : (s.retireRecord r).panelConsistent := by
  have hreleased := State.releaseRecordBanks_fits hs.fits (s.handleOfRecord r)
  refine State.panelConsistent_of_fits hs (by simp) ?_
  unfold State.retireRecord
  split
  case h_2 | h_3 => simpa using hreleased
  all_goals simpa using hs.fits

theorem State.turnOutbound_decoder (s : State) : s.turnOutbound.raster.decoder = s.raster.decoder := by
  unfold State.turnOutbound; split <;> rfl

theorem State.beginListing_fillBank (s : State) : s.beginListing.raster.decoder.fillBank = s.raster.decoder.fillBank := by
  unfold State.beginListing
  split
  · split
    next h => simp [h.2, Decoder.fillBank]
    · rfl
  all_goals rfl

theorem State.abandonListing_fillBank (s : State) : s.abandonListing.raster.decoder.fillBank = s.raster.decoder.fillBank := by
  unfold State.abandonListing
  split
  next h => simp [h, Decoder.fillBank]
  · rfl

theorem State.nextWordOut_fillBank {rest : List Word} (hdec : s.raster.decoder = .listing) :
    (s.nextWordOut rest).raster.decoder.fillBank = s.raster.decoder.fillBank := by
  unfold State.nextWordOut
  dsimp only
  split
  · split <;> simp [hdec, Decoder.fillBank]
  · rfl

theorem State.hardReset_panelConsistent (s : State) (phase : ResetPhase) (p : Pins) (plates : Vector Bool 6) (rec : Bool) :
    (s.hardReset phase p plates rec).panelConsistent := by
  refine State.panelConsistent_of_stopped (path := .idle) (why := .none) ⟨List.nodup_nil, fun id => ?_⟩ rfl (by simp) (by simp)
  cases id <;> simp [State.hardReset, PanelStore.reset, PanelStore.bank, Bank.reset, Bank.fits, RasterPort.reset, Decoder.fillBank]

/-- Every work keeps the Panel Store. -/
theorem State.Works.keeps_panel {t : State} (h : s.Works t) (hs : s.panelConsistent) : t.panelConsistent := by
  cases h with
  | settlePlate sl => exact State.settlePlate_panelConsistent hs sl
  | release sl =>
    refine State.streamGo_panelConsistent (State.panelConsistent_of_fits hs (by simp) ?_)
    simpa [State.enterReleasing] using State.releaseBanksOf_fits hs.fits sl
  | retire h r => exact State.streamGo_panelConsistent (State.retireRecord_panelConsistent hs r)
  | takeWord => exact State.streamGo_panelConsistent (by exact hs)
  | stream => exact State.streamGo_panelConsistent hs
  | endFill f w rest hdec =>
    have hfits := hs.fits
    rw [hdec] at hfits
    exact State.streamGo_panelConsistent (State.panelConsistent_of_fits hs (by simp) (State.finishFill_fits hfits w rest))
  | endDrain w rest hdec =>
    have hfits := hs.fits
    rw [hdec] at hfits
    exact State.streamGo_panelConsistent (State.panelConsistent_of_fits hs rfl hfits)
  | flushPort => exact State.panelConsistent_of_fits hs (by simp) (State.flushPort_fits hs.fits)
  | turnOutbound => exact State.panelConsistent_congr (by simp) (by rw [s.turnOutbound_decoder]) (by simp) hs
  | turnInbound => exact State.panelConsistent_congr (by simp) s.abandonListing_fillBank (by simp) hs
  | beginListing => exact State.panelConsistent_congr (by simp) s.beginListing_fillBank (by simp) hs
  | sendHighHalf w rest hdec =>
    exact State.panelConsistent_congr (by simp)
      (State.nextWordOut_fillBank (s := { s with raster := { s.raster with strobed := true } }) hdec) (by simp) hs
  | takeJob => exact State.takeJob_panelConsistent hs
  | panelReady =>
    exact State.reportPanelReady_panelConsistent (State.panelConsistent_of_fits hs rfl (hs.fits.congr rfl (fun o => by cases o <;> exact ⟨rfl, rfl⟩)))
  | showStrobe => exact State.panelConsistent_of_fits hs rfl (hs.fits.congr rfl (fun o => by cases o <;> exact ⟨rfl, rfl⟩))
  | arrive => exact State.reportArrived_panelConsistent (by exact hs)
  | failMove why => exact State.preparationFault_panelConsistent (by exact hs) why
  | preparationFault why => exact State.preparationFault_panelConsistent hs why
  | tryOpen => exact State.tryOpen_panelConsistent hs
  | pulse openMs => exact State.pulse_panelConsistent hs openMs
  | endGate => exact State.tryOpen_panelConsistent (by exact hs)
  | endRemoved j hjob => exact State.endRemoved_panelConsistent hs hjob
  | haltPreparing j hjob => exact State.endPreparing_panelConsistent hs hjob _ (by simp) (by simp)
  | endSpoiled j openMs path why hjob hpath _ hend =>
    rcases hend with ⟨rfl, -⟩ | ⟨rfl, -⟩ <;> exact State.endSpoiled_panelConsistent hs hjob hpath _ _ (by simp) (by simp)
  | endReturned j openMs path why hjob hpath _ hend =>
    rcases hend with ⟨rfl, -⟩ | ⟨rfl, -⟩ <;> exact State.endReturned_panelConsistent hs hjob hpath _ _ (by simp) (by simp)
  | haltPath =>
    unfold State.haltPath
    split
    next hpath => exact State.panelConsistent_of_seq hs rfl (by simp [hpath])
    all_goals exact hs
  | haltIdle hpath => exact State.panelConsistent_of_seq hs rfl (by simp [hpath])
  | resume hpath => exact State.panelConsistent_of_seq hs rfl (by rcases hpath with h | h <;> simp [h])
  | setLamp => unfold State.setLamp; split <;> exact hs
  | deleteNext | endDeletion | closeMaster | place | rekeyWithin | rekeyMove | replace =>
    exact State.panelConsistent_congr (by simp) (by simp) (by simp) hs
  | tellPins | tellPlate | dropReport | openMaster | setClass | queueListing | awaitGate | startGate | setTables | startPeriod
  | takeLowHalf | sendLowHalf | goMove | endMotionDrain => exact hs

/-- Settles O55: every work keeps the memories, and every effect keeps the Panel Store, so every command does. -/
theorem stepKeepsTheBanks : Obligations.StepKeepsTheBanks :=
  fun _ _ h => ⟨step_preserves_film (fun _ _ hworks hs => hworks.keeps_memory hs) (fun _ _ _ _ _ hs => hs) (fun _ _ _ _ _ hs => hs) h,
    step_preserves_film (fun _ _ hworks hs => hworks.keeps_panel hs) (fun s phase p plates rec _ => s.hardReset_panelConsistent phase p plates rec)
      (fun _ _ _ _ _ hs => hs) h⟩

end Sys2Proof.Machine

/-! O56, the raster port. A port whose decoder may have words or a FREE bank to work on (`RasterPort.loose`) is what the operations leave; the
stream brings it to rest. -/

namespace Sys2Proof.Machine

/-! ## The port before the stream has run -/

/-- What holds of the decoder and its FIFO while the stream may still have something to do (R70 to R72, R77, R79, R87). -/
def RasterPort.decoderLoose (r : RasterPort) : Prop :=
  match r.decoder with
  | .header | .discard => True
  | .waitBank => 4 ≤ r.fifo.length
  | .fill f => f.count < f.words
  | .drain left => 1 ≤ left
  | .listing => r.fifo ≠ [] ∧ r.direction = .outbound

/-- Nothing is half done while the direction is outbound (R85). -/
def RasterPort.outboundFits (r : RasterPort) : Prop :=
  r.direction = .outbound → r.loneHalf = none ∧ (r.decoder = .listing ∨ r.decoder = .header ∧ r.fifo = [])

/-- The port while the stream may still have something to do. -/
structure RasterPort.Loose (r : RasterPort) : Prop where
  room : r.fifo.length ≤ Config.fifoWords
  decoder : r.decoderLoose
  listing : r.listingFits
  outbound : r.outboundFits

variable {s : State}

theorem RasterPort.decoderFits.loose {r : RasterPort} {b : Bool} (h : r.decoderFits b) : r.decoderLoose := by
  unfold RasterPort.decoderFits at h
  unfold RasterPort.decoderLoose
  split <;> simp_all

/-- The direction matters to a listing alone. -/
theorem RasterPort.decoderFits.withDirection {r : RasterPort} {b : Bool} (h : r.decoderFits b) (hne : r.decoder ≠ .listing) (d : Direction) :
    ({ r with direction := d } : RasterPort).decoderFits b := by
  unfold RasterPort.decoderFits at h ⊢
  cases hdec : r.decoder with
  | listing => exact absurd hdec hne
  | header | waitBank | fill | drain | discard => simpa only [hdec] using h

theorem State.portConsistent.loose (hs : s.portConsistent) : s.raster.Loose := by
  obtain ⟨hroom, hdecoder, hlisting, houtbound⟩ := hs
  exact ⟨hroom, hdecoder.loose, hlisting, houtbound⟩

/-- While no listing is sent the place is not in progress, and the other way round (R86 to R89). -/
theorem RasterPort.listingFits.of_ne {r : RasterPort} (h : r.listingFits) (hne : r.decoder ≠ .listing) :
    (∀ sl, r.place ≠ .inProgress sl) ∧ r.buffer = none ∧ r.lowSent = false := by
  unfold RasterPort.listingFits at h
  split at h
  · exact absurd h.1 hne
  next hplace => exact ⟨fun sl => by simp [hplace], h.2⟩
  next hplace => exact ⟨fun sl => by simp [hplace], h.2⟩

theorem RasterPort.listingFits.of_listing {r : RasterPort} (h : r.listingFits) (hd : r.decoder = .listing) :
    ∃ sl b, r.place = .inProgress sl ∧ r.buffer = some b ∧ b.slot = sl := by
  unfold RasterPort.listingFits at h
  split at h
  next sl hplace =>
    obtain ⟨b, hb, hslot⟩ := Option.map_eq_some_iff.mp h.2
    exact ⟨sl, b, hplace, hb, hslot⟩
  · exact absurd hd h.1
  · exact absurd hd h.1

theorem RasterPort.listingFits.intro {r : RasterPort} (hplace : ∀ sl, r.place ≠ .inProgress sl) (hdecoder : r.decoder ≠ .listing)
    (hbuffer : r.buffer = none) (hlow : r.lowSent = false) : r.listingFits := by
  unfold RasterPort.listingFits
  split
  next sl hp => exact absurd hp (hplace sl)
  all_goals exact ⟨hdecoder, hbuffer, hlow⟩

/-! ## The stream brings the port to rest -/

/-- A header that is bound or drained has a good row count (R73). -/
theorem State.rows_of_checkHeader {h : Header} (hv : ∀ why, s.checkHeader h ≠ .discard why) : 1 ≤ h.rows.toNat ∧ h.rows.toNat ≤ 1536 := by
  unfold State.checkHeader at hv
  split at hv
  · exact absurd rfl (hv _)
  · split at hv
    · exact absurd rfl (hv _)
    next hrows =>
      simp only [Config.bankRows] at hrows
      omega

theorem Header.rowCount_val {h : Header} (hrows : h.rows.toNat ≤ 1536) : h.rowCount.val = h.rows.toNat :=
  Nat.mod_eq_of_lt (Nat.lt_succ_of_le hrows)

/-- A decoder that works on words stands in an inbound port. -/
theorem RasterPort.Loose.inbound {r : RasterPort} (h : r.Loose) (hlisting : r.decoder ≠ .listing) (hwork : r.decoder ≠ .header ∨ r.fifo ≠ []) :
    r.direction = .inbound := by
  cases hdir : r.direction with
  | inbound => rfl
  | outbound =>
    rcases (h.outbound hdir).2 with hd | ⟨hd, hf⟩
    · exact absurd hd hlisting
    · rcases hwork with hne | hne
      · exact absurd hd hne
      · exact absurd hf hne

/-- A change of the words and the decoder of an inbound port that sends no listing. -/
theorem RasterPort.Loose.change {r q : RasterPort} (h : r.Loose) (hne : r.decoder ≠ .listing) (hdir : q.direction = .inbound)
    (hkeep : q.place = r.place ∧ q.buffer = r.buffer ∧ q.lowSent = r.lowSent) (hroom : q.fifo.length ≤ Config.fifoWords)
    (hdecoder : q.decoderLoose) (hne' : q.decoder ≠ .listing) : q.Loose := by
  obtain ⟨hplace, hbuffer, hlow⟩ := hkeep
  obtain ⟨hnone, hempty, hzero⟩ := h.listing.of_ne hne
  exact ⟨hroom, hdecoder, .intro (fun sl => hplace ▸ hnone sl) hne' (hbuffer.trans hempty) (hlow.trans hzero),
    fun hout => by simp [hdir] at hout⟩

theorem State.takeHeader_loose (h : s.raster.Loose) :
    s.takeHeader.raster.Loose ∧ (s.takeHeader.raster.decoder = .header → s.takeHeader.raster.fifo.length < 4) := by
  unfold State.takeHeader
  split
  next hcond =>
    obtain ⟨hd, hlen⟩ := hcond
    have hne : s.raster.fifo ≠ [] := fun h0 => by simp [h0] at hlen
    have hdir := h.inbound (by simp [hd]) (.inr hne)
    exact ⟨h.change (by simp [hd]) hdir ⟨rfl, rfl, rfl⟩ h.room hlen (by simp), by simp⟩
  next hcond => exact ⟨h, fun hd => Nat.not_le.mp fun hlen => hcond ⟨hd, hlen⟩⟩

theorem Fill.words_pos {f : Fill} (h : 1 ≤ f.rows.val) : 0 < f.words := by
  simp only [Fill.words, Config.rowWords]
  omega

/-- The fill that a header bound to a bank begins (R76). -/
def Header.fill (h : Header) (id : BankId) : Fill :=
  { bank := id, rows := h.rowCount, sum := h.sum, handle := h.handle, running := 0, count := 0 }

theorem State.settleHeader_bind_raster (id : BankId) (h : Header) (bd : Binding) :
    (s.settleHeader id h (.bind bd)).raster = { s.raster with decoder := .fill (h.fill id) } := by
  simp [State.settleHeader, State.bindHeader, Header.fill]

theorem State.settleHeader_drain_raster (id : BankId) (h : Header) (why : RasterReason) :
    (s.settleHeader id h (.drain why)).raster =
      { s.raster with decoder := .drain (h.rows.toNat * Config.rowWords), faultReason := why, faultHandle := h.handle } := rfl

theorem State.settleHeader_discard_raster (id : BankId) (h : Header) (why : RasterReason) :
    (s.settleHeader id h (.discard why)).raster = { s.raster with decoder := .discard, faultReason := why, faultHandle := h.handle } := rfl

/-- What a verdict leaves of the port: FILL with no word moved, DRAIN, or DISCARD (R73 to R76). -/
theorem State.settleHeader_loose {rest : List Word} (h : s.raster.Loose) (hwait : s.raster.decoder = .waitBank)
    (hrest : rest.length ≤ Config.fifoWords) (id : BankId) (hd : Header) {u : State} (hu : u = { s with raster := { s.raster with fifo := rest } }) :
    (u.settleHeader id hd (u.checkHeader hd)).raster.Loose ∧ (u.settleHeader id hd (u.checkHeader hd)).raster.decoder ≠ .header ∧
      (u.settleHeader id hd (u.checkHeader hd)).raster.decoder ≠ .waitBank := by
  have hne : s.raster.decoder ≠ .listing := by simp [hwait]
  have hdir : s.raster.direction = .inbound := h.inbound hne (.inl (by simp [hwait]))
  have hraster : u.raster = { s.raster with fifo := rest } := by rw [hu]
  cases hv : u.checkHeader hd with
  | discard why =>
    rw [State.settleHeader_discard_raster, hraster]
    exact ⟨h.change hne hdir ⟨rfl, rfl, rfl⟩ hrest trivial (by simp), by simp⟩
  | drain why =>
    obtain ⟨hlow, -⟩ := State.rows_of_checkHeader (s := u) (h := hd) (by simp [hv])
    have hwords : 1 ≤ hd.rows.toNat * Config.rowWords := by simp only [Config.rowWords]; omega
    rw [State.settleHeader_drain_raster, hraster]
    exact ⟨h.change hne hdir ⟨rfl, rfl, rfl⟩ hrest hwords (by simp), by simp⟩
  | bind bd =>
    obtain ⟨hlow, hhigh⟩ := State.rows_of_checkHeader (s := u) (h := hd) (by simp [hv])
    have hwords : 0 < (hd.fill id).words := Fill.words_pos (by rw [Header.fill, Header.rowCount_val hhigh]; exact hlow)
    rw [State.settleHeader_bind_raster, hraster]
    exact ⟨h.change hne hdir ⟨rfl, rfl, rfl⟩ hrest hwords (by simp), by simp⟩

theorem State.examineHeader_loose (h : s.raster.Loose) (hheader : s.raster.decoder = .header → s.raster.fifo.length < 4) :
    s.examineHeader.raster.Loose ∧ (s.examineHeader.raster.decoder = .header → s.examineHeader.raster.fifo.length < 4) ∧
      (s.examineHeader.raster.decoder = .waitBank → s.examineHeader.freeBankId? = none) := by
  unfold State.examineHeader
  split
  next hwait =>
    have hlen : 4 ≤ s.raster.fifo.length := by
      have hd := h.decoder
      rwa [RasterPort.decoderLoose, hwait] at hd
    split
    next id w0 w1 w2 w3 rest _ hfifo =>
      have hroom := h.room
      rw [hfifo] at hroom
      obtain ⟨hloose, hnot, hnot'⟩ := State.settleHeader_loose (rest := rest) h hwait (by simp at hroom; omega) id (Header.ofWords w0 w1 w2 w3) rfl
      exact ⟨hloose, fun hd => absurd hd hnot, fun hd => absurd hd hnot'⟩
    next hnone =>
      refine ⟨h, hheader, fun _ => ?_⟩
      match hid : s.freeBankId?, hf : s.raster.fifo, hlen with
      | none, _, _ => rfl
      | some id, w0 :: w1 :: w2 :: w3 :: rest, _ => exact (hnone id w0 w1 w2 w3 rest hid hf).elim
  next hwait => exact ⟨h, hheader, fun hd => absurd hd hwait⟩

theorem State.portConsistent_of_loose (h : s.raster.Loose) (hd : s.raster.decoderFits (s.freeBankId? = none)) : s.portConsistent :=
  ⟨h.room, hd, h.listing, h.outbound⟩

/-- The words left of a move are the last of those moved. -/
theorem moveData_suffix (l : List Word) (f : Fill) (m : List BankCell) : (moveData f m l).2.2 <:+ l := by
  induction l generalizing f m with
  | nil => exact List.suffix_rfl
  | cons w rest ih =>
    simp only [moveData]
    split
    · exact (ih _ _).trans (List.suffix_cons w rest)
    · exact List.suffix_rfl

/-- The decoder consumes what it can, and the port is at rest (R71, R72, R77, R79, R80; log entry 5). -/
theorem State.consume_portConsistent (h : s.raster.Loose) (hheader : s.raster.decoder = .header → s.raster.fifo.length < 4)
    (hwait : s.raster.decoder = .waitBank → s.freeBankId? = none) : s.consume.portConsistent := by
  have hinbound : ∀ d, s.raster.decoder = d → d ≠ .listing → d ≠ .header → s.raster.decoder ≠ .listing ∧ s.raster.direction = .inbound := by
    rintro d rfl hne hwork
    exact ⟨hne, h.inbound hne (.inl hwork)⟩
  have hdecoder := h.decoder
  unfold RasterPort.decoderLoose at hdecoder
  unfold State.consume
  split
  next f hd =>
    obtain ⟨hne, hdir⟩ := hinbound _ hd (by simp) (by simp)
    have hcount : f.count < f.words := by rwa [hd] at hdecoder
    obtain ⟨-, hrows, -, -, hlt, hlast⟩ := moveData_fill s.raster.fifo f (s.bank f.bank).words
    have hwords : (moveData f (s.bank f.bank).words s.raster.fifo).1.words = f.words := by rw [Fill.words, hrows, Fill.words]
    have hroom := (moveData_suffix s.raster.fifo f (s.bank f.bank).words).length_le.trans h.room
    refine State.portConsistent_of_loose (h.change hne hdir ⟨rfl, rfl, rfl⟩ hroom ?_ (by simp [State.moveFill])) ?_
    · exact (hlt hcount).trans_eq hwords.symm
    · exact ⟨(hlt hcount).trans_eq hwords.symm, fun hrest => (hlast hcount hrest).trans hwords.symm⟩
  next left hd =>
    obtain ⟨hne, hdir⟩ := hinbound _ hd (by simp) (by simp)
    have hleft : 1 ≤ left := by rwa [hd] at hdecoder
    have hroom : (s.raster.fifo.drop (min (left - 1) s.raster.fifo.length)).length ≤ Config.fifoWords :=
      (List.drop_suffix _ _).length_le.trans h.room
    have hrest : 1 ≤ left - min (left - 1) s.raster.fifo.length := by omega
    refine State.portConsistent_of_loose (h.change hne hdir ⟨rfl, rfl, rfl⟩ hroom hrest (by simp)) ⟨hrest, fun hwords => ?_⟩
    have hlen : min (left - 1) s.raster.fifo.length < s.raster.fifo.length := by
      by_contra hge
      exact hwords (List.drop_eq_nil_of_le (Nat.not_lt.mp hge))
    omega
  next hd =>
    obtain ⟨hne, hdir⟩ := hinbound _ hd (by simp) (by simp)
    exact State.portConsistent_of_loose (h.change hne hdir ⟨rfl, rfl, rfl⟩ (Nat.zero_le _) (by simp [RasterPort.decoderLoose, hd]) hne)
      (by simp [RasterPort.decoderFits, hd])
  next hd => exact State.portConsistent_of_loose h (by simpa [RasterPort.decoderFits, hd] using hheader hd)
  next hd =>
    rw [hd] at hdecoder
    exact State.portConsistent_of_loose h (by simpa [RasterPort.decoderFits, hd, hwait hd] using hdecoder)
  next hd =>
    rw [hd] at hdecoder
    exact State.portConsistent_of_loose h (by simpa [RasterPort.decoderFits, hd] using hdecoder)

theorem State.streamGo_portConsistent (h : s.raster.Loose) : s.streamGo.portConsistent := by
  obtain ⟨hhead, hheader⟩ := State.takeHeader_loose h
  obtain ⟨hexam, hheader, hwait⟩ := State.examineHeader_loose hhead hheader
  exact State.consume_portConsistent hexam hheader hwait

/-! ## The port through the effects -/

/-- An operation after which the stream runs, and that leaves the port as it was. -/
theorem State.streamGo_portConsistent_of_raster {u : State} (hs : s.portConsistent) (hraster : u.raster = s.raster) : u.streamGo.portConsistent :=
  State.streamGo_portConsistent (hraster ▸ hs.loose)

/-- Nothing but the port and the freedom of the banks is read. -/
theorem State.portConsistent_congr {t : State} (hraster : t.raster = s.raster) (hpanel : t.panel = s.panel) (hs : s.portConsistent) :
    t.portConsistent := by
  have hfree : t.freeBankId? = s.freeBankId? := by rw [State.freeBankId?, hpanel, ← State.freeBankId?]
  unfold State.portConsistent at hs ⊢
  rw [hraster, hfree]
  exact hs

/-- A bank taken for a job is no bank that becomes FREE. -/
theorem State.showBank_freeBankId? (id : BankId) (rest : List BankId) (h : s.freeBankId? = none) : (s.showBank id rest).freeBankId? = none := by
  have hbusy : s.panel.bankA.state ≠ .free ∧ s.panel.bankB.state ≠ .free := by
    unfold State.freeBankId? at h
    split at h
    · cases h
    · split at h
      · cases h
      · exact ⟨‹_›, ‹_›⟩
  cases id <;> simp [State.freeBankId?, State.showBank, PanelStore.setBank, hbusy]

theorem State.takeJob_portConsistent (hs : s.portConsistent) : s.takeJob.portConsistent := by
  rcases s.takeJob_cases with heq | ⟨id, rest, kind, sl, factor, f, -, -, -, -, -, heq⟩
  · rwa [heq]
  rw [heq]
  have hraster : (s.takeJobOf id rest kind sl factor f.format).raster = s.raster := by simp
  have hfree : s.freeBankId? = none → (s.takeJobOf id rest kind sl factor f.format).freeBankId? = none := fun h => by
    have hpanel : (s.takeJobOf id rest kind sl factor f.format).panel = (s.showBank id rest).panel := by
      simp [State.takeJobOf, State.showBank, State.bank]
    rw [State.freeBankId?, hpanel]
    exact State.showBank_freeBankId? id rest h
  obtain ⟨hroom, hdecoder, hlisting, houtbound⟩ := hs
  unfold State.portConsistent
  rw [hraster]
  refine ⟨hroom, ?_, hlisting, houtbound⟩
  unfold RasterPort.decoderFits at hdecoder ⊢
  split <;> simp_all

theorem State.settleFill_raster (s : State) (f : Fill) :
    (s.settleFill f).raster = s.raster ∨ ∃ why h, (s.settleFill f).raster = { s.raster with faultReason := why, faultHandle := h } := by
  unfold State.settleFill
  split
  · exact .inl rfl
  · split
    · split
      · split <;> exact .inl rfl
      · exact .inl rfl
      · exact .inl rfl
    · exact .inr ⟨.sumMismatch, f.handle, by simp [State.rasterFault]⟩

theorem State.abandonFill_raster (s : State) :
    s.abandonFill.raster = s.raster ∨ ∃ why h, s.abandonFill.raster = { s.raster with faultReason := why, faultHandle := h } := by
  unfold State.abandonFill
  split
  next f _ =>
    split
    · exact .inr ⟨.flushedMidRaster, f.handle, by simp [State.rasterFault]⟩
    · exact .inl rfl
  all_goals exact .inl rfl

/-- The last raster fault is no part of the port's form. -/
theorem RasterPort.Loose.withFault {r q : RasterPort} (h : r.Loose) (hq : q = r ∨ ∃ why k, q = { r with faultReason := why, faultHandle := k }) :
    q.Loose := by
  rcases hq with rfl | ⟨why, k, rfl⟩
  · exact h
  · exact ⟨h.room, h.decoder, h.listing, h.outbound⟩

theorem State.finishFill_loose (hs : s.raster.Loose) {f : Fill} {w : Word} {rest : List Word} (hd : s.raster.decoder = .fill f)
    (hfifo : s.raster.fifo = w :: rest) : (s.finishFill f w rest).raster.Loose := by
  have hroom := hs.room
  rw [hfifo, List.length_cons] at hroom
  have hheader : ({ s.raster with fifo := rest, decoder := .header } : RasterPort).Loose :=
    hs.change (by simp [hd]) (hs.inbound (by simp [hd]) (.inl (by simp [hd]))) ⟨rfl, rfl, rfl⟩ (by simp only; omega) trivial (by simp)
  exact hheader.withFault (State.settleFill_raster _ (f.move w))

theorem State.abandonListing_loose (hs : s.raster.Loose) : s.abandonListing.raster.Loose ∧ s.abandonListing.raster.decoder ≠ .listing := by
  unfold State.abandonListing
  split
  · have hroom : ([] : List Word).length ≤ Config.fifoWords := Nat.zero_le _
    exact ⟨⟨hroom, trivial, .intro (by simp) (by simp) rfl rfl, fun hout => ⟨(hs.outbound hout).1, .inr ⟨rfl, rfl⟩⟩⟩, by simp⟩
  next hd => exact ⟨hs, hd⟩

/-- The empty port at a header boundary. -/
theorem State.portConsistent_of_empty (hfifo : s.raster.fifo = []) (hd : s.raster.decoder = .header) (hlone : s.raster.loneHalf = none)
    (hlisting : s.raster.listingFits) : s.portConsistent := by
  refine ⟨by simp [hfifo], ?_, hlisting, fun _ => ⟨hlone, .inr ⟨hd, hfifo⟩⟩⟩
  simp [RasterPort.decoderFits, hd, hfifo]

theorem State.flushPort_portConsistent (hs : s.portConsistent) : s.flushPort.portConsistent := by
  obtain ⟨hloose, hne⟩ := State.abandonListing_loose (hs.loose.withFault s.abandonFill_raster)
  obtain ⟨hplace, hbuffer, hlow⟩ := hloose.listing.of_ne hne
  exact State.portConsistent_of_empty rfl rfl rfl (.intro hplace (by simp [State.flushPort]) hbuffer hlow)

theorem State.turnOutbound_portConsistent (hs : s.portConsistent) : s.turnOutbound.portConsistent := by
  unfold State.turnOutbound
  split
  next h =>
    obtain ⟨-, -, hd, hfifo, hlone⟩ := h
    obtain ⟨hplace, hbuffer, hlow⟩ := hs.loose.listing.of_ne (by simp [hd])
    exact State.portConsistent_of_empty hfifo hd hlone (.intro hplace (by simp [hd]) hbuffer hlow)
  · exact hs

theorem State.turnInbound_portConsistent (hs : s.portConsistent) :
    ({ s.abandonListing with raster := { s.abandonListing.raster with direction := .inbound } } : State).portConsistent := by
  obtain ⟨hroom, hdecoder, hlisting, houtbound⟩ := hs
  unfold State.abandonListing
  split
  · refine ⟨Nat.zero_le _, ?_, .intro (by simp) (by simp) rfl rfl, by simp⟩
    simp [RasterPort.decoderFits]
  next hd =>
    refine ⟨hroom, ?_, hlisting, by simp⟩
    exact RasterPort.decoderFits.withDirection (by exact hdecoder) hd .inbound

theorem ListingBuffer.words_ne_nil (b : ListingBuffer) : b.words ≠ [] := by simp [ListingBuffer.words, listingHeader]

theorem State.beginListing_portConsistent (hs : s.portConsistent) : s.beginListing.portConsistent := by
  unfold State.beginListing
  split
  next sl _ =>
    split
    next h =>
      obtain ⟨hout, hd⟩ := h
      have hwords : ∀ b : ListingBuffer, b.words.take Config.fifoWords ≠ [] := fun b => by
        simp [ListingBuffer.words_ne_nil, Config.fifoWords]
      obtain ⟨hlone, -⟩ := hs.loose.outbound hout
      exact ⟨List.length_take_le _ _, ⟨hwords _, hout⟩, ⟨rfl, rfl⟩, fun _ => ⟨hlone, .inl rfl⟩⟩
    · exact hs
  · exact hs
  · exact hs

/-- R88: the low half of a listing's word has gone out. -/
theorem State.sendLowHalf_portConsistent (hs : s.portConsistent) (hd : s.raster.decoder = .listing) :
    ({ s with raster := { s.raster with strobed := true, lowSent := true } } : State).portConsistent := by
  obtain ⟨sl, b, hplace, hbuffer, rfl⟩ := hs.loose.listing.of_listing hd
  obtain ⟨hroom, hdecoder, -, houtbound⟩ := hs
  refine ⟨hroom, hdecoder, ?_, houtbound⟩
  simp [RasterPort.listingFits, hplace, hd, hbuffer]

/-- R88: a word of a listing has gone out. -/
theorem State.nextWordOut_portConsistent (hs : s.portConsistent) (hd : s.raster.decoder = .listing) {w : Word} {rest : List Word}
    (hfifo : s.raster.fifo = w :: rest) : (s.nextWordOut rest).portConsistent := by
  obtain ⟨sl, b, hplace, hbuffer, rfl⟩ := hs.loose.listing.of_listing hd
  have hroom := hs.loose.room
  rw [hfifo, List.length_cons] at hroom
  have hdecoder := hs.loose.decoder
  rw [RasterPort.decoderLoose, hd] at hdecoder
  obtain ⟨hlone, -⟩ := hs.loose.outbound hdecoder.2
  simp only [State.nextWordOut, hbuffer]
  split
  · exact State.portConsistent_of_empty rfl rfl hlone (.intro (by simp) (by simp) rfl rfl)
  next hmore =>
    refine ⟨?_, ?_, ?_, fun _ => ⟨hlone, .inl hd⟩⟩
    · have hone : ((b.words.drop b.loaded).take 1).length ≤ 1 := List.length_take_le _ _
      rw [List.length_append]
      omega
    · simp only [RasterPort.decoderFits, hd]
      exact ⟨hmore, hdecoder.2⟩
    · simp [RasterPort.listingFits, hplace, hd]

/-- A place that was not in progress and is now empty or queued. -/
theorem State.place_portConsistent (hs : s.portConsistent) {place : ListingPlace} (hold : ∀ sl, s.raster.place ≠ .inProgress sl)
    (hnew : ∀ sl, place ≠ .inProgress sl) : ({ s with raster := { s.raster with place := place } } : State).portConsistent := by
  obtain ⟨hroom, hdecoder, hlisting, houtbound⟩ := hs
  have hkeep : s.raster.decoder ≠ .listing ∧ s.raster.buffer = none ∧ s.raster.lowSent = false := by
    unfold RasterPort.listingFits at hlisting
    split at hlisting
    next sl hplace => exact absurd hplace (hold sl)
    all_goals exact hlisting
  exact ⟨hroom, hdecoder, .intro hnew hkeep.1 hkeep.2.1 hkeep.2.2, houtbound⟩

/-- R17: a queued listing of the slot is withdrawn as its master enters RELEASING. -/
theorem State.enterReleasing_loose (hs : s.portConsistent) (sl : Slot) : (s.enterReleasing sl).raster.Loose := by
  have hraster : (s.enterReleasing sl).raster =
      { s.raster with place := if s.raster.place = .queued sl then .empty else s.raster.place } := by
    simp [State.enterReleasing]
  rw [hraster]
  split
  next hq => exact (State.place_portConsistent hs (place := .empty) (by simp [hq]) (by simp)).loose
  · exact hs.loose

theorem State.settlePlate_portConsistent (hs : s.portConsistent) (sl : Slot) : (s.settlePlate sl).portConsistent := by
  unfold State.settlePlate
  dsimp only
  split
  · exact hs
  · split
    · exact hs
    · split
      · unfold State.plateInserted; split <;> exact hs
      · unfold State.plateRemoved
        split
        case h_1 | h_2 => exact hs
        case h_3 | h_4 | h_5 | h_6 | h_7 => exact State.streamGo_portConsistent_of_raster hs (by simp)
        case h_8 => exact State.streamGo_portConsistent (State.enterReleasing_loose (s := s.setPlate sl _) hs sl)
        all_goals exact hs

theorem State.endRemoved_portConsistent (hs : s.portConsistent) (j : Job) : (s.endRemoved j).portConsistent := by
  refine State.streamGo_portConsistent_of_raster hs ?_
  split <;> simp

theorem State.preparationFault_portConsistent (hs : s.portConsistent) (why : PathFault) : (s.preparationFault why).portConsistent := by
  unfold State.preparationFault
  split
  · split
    · exact State.endRemoved_portConsistent hs _
    · exact State.streamGo_portConsistent_of_raster hs (by simp)
  · exact hs

theorem State.tryOpen_portConsistent (hs : s.portConsistent) : s.tryOpen.portConsistent := by
  unfold State.tryOpen
  split
  · split
    · split
      · exact State.endRemoved_portConsistent hs _
      · exact hs
    · exact hs
  · exact hs

theorem State.pulse_portConsistent (hs : s.portConsistent) (openMs : Nat) : (s.pulse openMs).portConsistent := by
  unfold State.pulse
  split
  · split
    · unfold State.reachTarget
      dsimp only
      split
      · exact State.endRemoved_portConsistent (by exact hs) _
      · rw [State.endExposed_eq_takeJob]
        exact State.takeJob_portConsistent (State.streamGo_portConsistent_of_raster hs (by simp))
    · exact hs
  · exact hs

theorem State.hardReset_portConsistent (s : State) (phase : ResetPhase) (p : Pins) (plates : Vector Bool 6) (rec : Bool) :
    (s.hardReset phase p plates rec).portConsistent := by
  have hlisting : (RasterPort.reset p.dir).listingFits := .intro (by simp [RasterPort.reset]) (by simp [RasterPort.reset]) rfl rfl
  exact State.portConsistent_of_empty rfl rfl rfl hlisting

/-- Every work keeps the port. -/
theorem State.Works.keeps_port {t : State} (h : s.Works t) (hs : s.portConsistent) : t.portConsistent := by
  cases h with
  | settlePlate sl => exact State.settlePlate_portConsistent hs sl
  | release sl => exact State.streamGo_portConsistent (State.enterReleasing_loose hs sl)
  | retire h r => exact State.streamGo_portConsistent_of_raster hs (by simp)
  | queueListing sl hplace => exact State.place_portConsistent hs (by simp [hplace]) (by simp)
  | takeLowHalf half hdir =>
    obtain ⟨hroom, hdecoder, hlisting, -⟩ := hs
    exact ⟨hroom, hdecoder, hlisting, fun hout => by simp [hdir] at hout⟩
  | takeWord w hdir hroom =>
    have hne : s.raster.decoder ≠ .listing := fun hd => by
      have hdecoder := hs.loose.decoder
      rw [RasterPort.decoderLoose, hd] at hdecoder
      simp [hdir] at hdecoder
    refine State.streamGo_portConsistent (hs.loose.change hne hdir ⟨rfl, rfl, rfl⟩ (by simpa using hroom) ?_ hne)
    have hdecoder := hs.loose.decoder
    unfold RasterPort.decoderLoose at hdecoder ⊢
    split <;> simp_all
    omega
  | stream => exact State.streamGo_portConsistent hs.loose
  | endFill f w rest hd hfifo => exact State.streamGo_portConsistent (State.finishFill_loose hs.loose hd hfifo)
  | endDrain w rest hd hfifo =>
    have hroom := hs.loose.room
    rw [hfifo, List.length_cons] at hroom
    exact State.streamGo_portConsistent (hs.loose.change (by simp [hd]) (hs.loose.inbound (by simp [hd]) (.inl (by simp [hd])))
      ⟨rfl, rfl, rfl⟩ (by simp only; omega) trivial (by simp))
  | flushPort => exact State.flushPort_portConsistent hs
  | turnOutbound => exact State.turnOutbound_portConsistent hs
  | turnInbound => exact State.turnInbound_portConsistent hs
  | beginListing => exact State.beginListing_portConsistent hs
  | sendLowHalf hd => exact State.sendLowHalf_portConsistent hs hd
  | sendHighHalf w rest hd hfifo =>
    exact State.nextWordOut_portConsistent (s := { s with raster := { s.raster with strobed := true } }) hs hd hfifo
  | takeJob => exact State.takeJob_portConsistent hs
  | panelReady =>
    unfold State.reportPanelReady
    split
    · exact State.tryOpen_portConsistent (by exact hs)
    · exact hs
  | arrive =>
    unfold State.reportArrived
    split
    · exact State.tryOpen_portConsistent (by exact hs)
    · exact hs
  | failMove why => exact State.preparationFault_portConsistent (by exact hs) why
  | preparationFault why => exact State.preparationFault_portConsistent hs why
  | tryOpen => exact State.tryOpen_portConsistent hs
  | pulse openMs => exact State.pulse_portConsistent hs openMs
  | endGate => exact State.tryOpen_portConsistent (by exact hs)
  | endRemoved j => exact State.endRemoved_portConsistent hs j
  | haltPreparing | endSpoiled | endReturned => exact State.streamGo_portConsistent_of_raster hs (by simp)
  | haltPath => unfold State.haltPath; split <;> exact hs
  | setLamp => unfold State.setLamp; split <;> exact hs
  | deleteNext | endDeletion | closeMaster | place | rekeyWithin | rekeyMove | replace =>
    exact State.portConsistent_congr (by simp) (by simp) hs
  | tellPins | tellPlate | dropReport | openMaster | setClass | resume | awaitGate | startGate | setTables | startPeriod
  | showStrobe | goMove | endMotionDrain | haltIdle => exact hs

/-- Settles O56: every work keeps the port, so every command does. -/
theorem stepKeepsThePort : Obligations.StepKeepsThePort :=
  fun _ _ hs h => step_preserves_film (P := State.portConsistent) (fun _ _ hworks hs => hworks.keeps_port hs)
    (fun s phase p plates rec _ => s.hardReset_portConsistent phase p plates rec) (fun _ _ _ _ _ hs => hs) h hs

end Sys2Proof.Machine

/-! O58 and O52, the link interface and the latched flags, and O2: what the changes of the link interface keep, and that works only latch flags. -/

namespace Sys2Proof.Machine

/-! ## The link interface (O58) -/

section
variable {s t : State}

theorem State.linkConsistent_congr (hlink : t.link = s.link) (hanswer : t.answer = s.answer) (hs : s.linkConsistent) : t.linkConsistent := by
  unfold State.linkConsistent at hs ⊢
  rw [hlink, hanswer]
  exact hs

/-- Without a tail and without a pending answer, an interface out of OFF and ROLL_WAIT is consistent in any state that needs no tail. -/
theorem State.linkConsistent_of_idle (hnode : t.link.nodeId ≠ 0) (hiface : t.link.iface = .sync ∨ t.link.iface = .waitMark)
    (htail : t.link.tail = none) (hanswer : t.answer = none) (hgap : t.link.gapCount = true → t.link.iface = .sync) : t.linkConsistent := by
  have hnot : t.link.iface ≠ .off ∧ t.link.iface ≠ .answer ∧ t.link.iface ≠ .rollWait := by rcases hiface with h | h <;> simp [h]
  obtain ⟨hoff, hans, hroll⟩ := hnot
  refine ⟨iff_of_false hnode hoff, ?_, by simp [hanswer], by simp [htail], fun h => absurd h hroll, hgap⟩
  simp [htail, hans, hroll]

/-- A tail in ANSWER, with an answer pending or not. -/
theorem State.linkConsistent_of_answer (hnode : t.link.nodeId ≠ 0) (hiface : t.link.iface = .answer) (htail : t.link.tail.isSome = true)
    (hgap : t.link.gapCount = false) : t.linkConsistent := by
  refine ⟨iff_of_false hnode (by simp [hiface]), iff_of_true htail (.inl hiface), fun _ => hiface, fun _ _ _ => hiface, ?_, ?_⟩
  · simp [hiface]
  · simp [hgap]

theorem State.linkConsistent.nodeId_ne (hs : s.linkConsistent) (h : s.link.iface ≠ .off) : s.link.nodeId ≠ 0 := fun h0 => h (hs.1.mp h0)

theorem State.linkConsistent.gap_still (hs : s.linkConsistent) (h : s.link.iface ≠ .sync) : s.link.gapCount = false := by
  obtain ⟨-, -, -, -, -, hgap⟩ := hs
  exact Bool.eq_false_iff.mpr fun hg => h (hgap hg)

/-- Outside ANSWER and ROLL_WAIT there is no tail and no pending answer. -/
theorem State.linkConsistent.no_tail (hs : s.linkConsistent) (hans : s.link.iface ≠ .answer) (hroll : s.link.iface ≠ .rollWait) :
    s.link.tail = none ∧ s.answer = none := by
  obtain ⟨-, htail, hanswer, -⟩ := hs
  exact ⟨by simpa [hans, hroll] using htail, by simpa [hans] using hanswer⟩

theorem State.linkConsistent.tail_of_answer (hs : s.linkConsistent) (h : s.link.iface = .answer) : ∃ t, s.link.tail = some t :=
  Option.isSome_iff_exists.mp (hs.2.1.mpr (.inl h))

theorem State.enterSync_linkConsistent (hs : s.linkConsistent) (recessive : Bool) (h : s.link.iface ≠ .off) :
    (s.enterSync recessive).linkConsistent :=
  State.linkConsistent_of_idle (hs.nodeId_ne h) (.inl rfl) rfl rfl (fun _ => rfl)

theorem State.readStatusByte_linkConsistent (hs : s.linkConsistent) (h : s.link.iface = .answer) : s.readStatusByte.linkConsistent := by
  unfold State.readStatusByte
  split
  · have htold : ∀ tail, ({ s with link := { s.link with tail := some tail } } : State).linkConsistent := fun tail =>
      State.linkConsistent_of_answer (hs.nodeId_ne (by simp [h])) h rfl (hs.gap_still (by simp [h]))
    dsimp only
    split
    · exact htold _
    · exact htold _
  · exact hs

theorem State.completeTail_linkConsistent (hs : s.linkConsistent) (h : s.link.iface = .answer) : s.completeTail.linkConsistent := by
  unfold State.completeTail
  split
  · split
    · exact hs
    · exact State.linkConsistent_of_idle (hs.nodeId_ne (by simp [h])) (.inr rfl) rfl rfl
        (fun hg => by simp [hs.gap_still (by simp [h] : s.link.iface ≠ .sync)] at hg)
  · exact hs

theorem State.settleLoss_linkConsistent (hs : s.linkConsistent) (h : s.link.iface = .answer) : s.settleLoss.linkConsistent := by
  have hclash : (if (s.answer.map (·.clashes)).getD false = true then s.latchClash else s).link = s.link := by split <;> rfl
  have hnode := hs.nodeId_ne (by simp [h] : s.link.iface ≠ .off)
  have hgap := hs.gap_still (by simp [h] : s.link.iface ≠ .sync)
  unfold State.settleLoss
  dsimp only
  rw [hclash]
  split
  next b _ _ _ =>
    refine ⟨iff_of_false hnode (by simp), by simp, by simp, by simp, fun _ => ⟨_, rfl, b, rfl⟩, by simp [hgap]⟩
  · exact State.linkConsistent_of_idle hnode (.inr rfl) rfl rfl (by simp [hgap])

/-- Every change of the link interface keeps it. -/
theorem State.Links.keeps_link (hl : s.Links t) (hs : s.linkConsistent) : t.linkConsistent := by
  cases hl with
  | beginFrame h =>
    obtain ⟨htail, hanswer⟩ := hs.no_tail (by simp [h]) (by simp [h])
    exact ⟨iff_of_false (hs.nodeId_ne (by simp [h])) (by simp), by simp [htail], by simp [hanswer], by simp [htail], by simp, by simp⟩
  | receive rx h => exact hs
  | leaveFrame h =>
    obtain ⟨htail, hanswer⟩ := hs.no_tail (by simp [h]) (by simp [h])
    exact State.linkConsistent_of_idle (hs.nodeId_ne (by simp [h])) (.inr rfl) htail hanswer (by simp [hs.gap_still (by simp [h])])
  | enterSync recessive h => exact State.enterSync_linkConsistent hs recessive h
  | failFrame why h => exact State.enterSync_linkConsistent (s := s.linkFault why) hs true h
  | restartCount h =>
    obtain ⟨htail, hanswer⟩ := hs.no_tail (by simp [h]) (by simp [h])
    exact State.linkConsistent_of_idle (hs.nodeId_ne (by simp [h])) (.inl h) htail hanswer (fun _ => h)
  | closeGap h =>
    obtain ⟨htail, hanswer⟩ := hs.no_tail (by simp [h]) (by simp [h])
    exact State.linkConsistent_of_idle (hs.nodeId_ne (by simp [h])) (.inr rfl) htail hanswer (by simp)
  | readStatusByte h => exact State.readStatusByte_linkConsistent hs h
  | tellBit n h =>
    obtain ⟨tail, htail⟩ := hs.tail_of_answer h
    exact State.linkConsistent_of_answer (hs.nodeId_ne (by simp [h])) h (by simp [htail]) (hs.gap_still (by simp [h]))
  | completeTail h => exact State.completeTail_linkConsistent hs h
  | settleLoss h => exact State.settleLoss_linkConsistent hs h
  | holdCause h =>
    obtain ⟨tail, htail⟩ := hs.tail_of_answer h
    exact State.linkConsistent_of_answer (hs.nodeId_ne (by simp [h])) h (by simp [htail]) (hs.gap_still (by simp [h]))
  | startSlot h =>
    obtain ⟨tail, htail⟩ := Option.isSome_iff_exists.mp (hs.2.1.mpr (.inr h))
    exact State.linkConsistent_of_answer (hs.nodeId_ne (by simp [h])) rfl (by simp [htail]) (hs.gap_still (by simp [h]))
  | endRoll h =>
    exact State.linkConsistent_of_idle (hs.nodeId_ne (by simp [h])) (.inr rfl) rfl rfl (by simp [hs.gap_still (by simp [h])])

/-- A delivery from REQUEST leaves the interface in WAIT_MARK, or in ANSWER with a tail. -/
theorem Answer.deliver_linkConsistent (a : Answer) (dst : Addressing) (code : Byte) (h : a.state.link.iface = .request)
    (hs : a.state.linkConsistent) : (a.deliver dst code).linkConsistent := by
  have hnode := hs.nodeId_ne (by simp [h] : a.state.link.iface ≠ .off)
  have hgap := hs.gap_still (by simp [h] : a.state.link.iface ≠ .sync)
  unfold Answer.deliver
  dsimp only
  split
  · exact State.linkConsistent_of_idle hnode (.inr rfl) rfl rfl (by simp [hgap])
  all_goals exact State.linkConsistent_of_answer hnode rfl rfl hgap

theorem State.hardReset_linkConsistent (s : State) (phase : ResetPhase) (p : Pins) (plates : Vector Bool 6) (rec : Bool) :
    (s.hardReset phase p plates rec).linkConsistent := by
  by_cases hstrap : p.strap = 0
  · simp [State.linkConsistent, State.hardReset, LinkInterface.reset, hstrap]
  · exact State.linkConsistent_of_idle hstrap (.inl (if_neg hstrap)) rfl rfl (fun _ => if_neg hstrap)

end

/-- Settles O58: works leave the link interface alone, its own changes keep it, and so do a delivery and a reset. -/
theorem stepKeepsTheLink : Obligations.StepKeepsTheLink := by
  intro s t hs h
  refine step_preserves (P := State.linkConsistent) (fun u v hdoes hu => ?_) Answer.deliver_linkConsistent
    (fun u phase p plates rec _ => u.hardReset_linkConsistent phase p plates rec) (fun _ _ hu => hu) h hs
  cases hdoes with
  | work hwork => exact State.linkConsistent_congr hwork.keeps_link.1 hwork.keeps_link.2 hu
  | link hl => exact hl.keeps_link hu

/-! ## The queue (O2) -/

theorem State.Works.keeps_pending {s t : State} (h : s.Works t) : t.pending = s.pending := by
  cases h with
  | haltPath => unfold State.haltPath; split <;> rfl
  | setLamp => unfold State.setLamp; split <;> rfl
  | tellPins | tellPlate | settlePlate | dropReport | deleteNext | endDeletion | openMaster | closeMaster | release | place
  | rekeyWithin | rekeyMove | setClass | retire | replace | queueListing | resume | awaitGate | startGate | setTables | startPeriod
  | takeLowHalf | takeWord | stream | endFill | endDrain | flushPort | turnOutbound | turnInbound | beginListing | sendLowHalf
  | sendHighHalf | takeJob | showStrobe | panelReady | goMove | arrive | failMove | endMotionDrain | preparationFault | tryOpen | pulse
  | endGate | haltIdle | endRemoved | haltPreparing | endSpoiled | endReturned => simp

/-- Settles O2: every command completes, and nothing that a command comes to touches the queue. -/
theorem everyCommandCompletes : Obligations.EveryCommandCompletes := by
  intro c s
  obtain ⟨t, ht, -⟩ := exec_comes c s
  refine ⟨t, ht, exec_preserves (P := fun u => u.pending = s.pending) (fun u v hdoes hu => ?_) (fun a dst code _ ha => ?_)
    (fun u phase p plates rec hu => hu) ht rfl⟩
  · cases hdoes with
    | work hwork => exact hwork.keeps_pending.trans hu
    | link hl =>
      obtain ⟨l, ans, sup, rfl⟩ := hl.relinks
      exact hu
  · exact (a.deliver_keeps dst code).1.trans ha

/-! ## The latched flags (O52) -/

/-- Every latched flag that is set stays set, and no reset begins or ends. -/
structure Supervision.Latches (a b : Supervision) : Prop where
  lnk : a.lnk = true → b.lnk = true
  ras : a.ras = true → b.ras = true
  cls : a.cls = true → b.cls = true
  plt : a.plt = true → b.plt = true
  phase : b.phase = a.phase

theorem Supervision.Latches.refl (a : Supervision) : a.Latches a := ⟨id, id, id, id, rfl⟩

theorem Supervision.Latches.of_eq {a b : Supervision} (h : b = a) : a.Latches b := h ▸ .refl a

theorem Supervision.Latches.trans {a b c : Supervision} (h : a.Latches b) (h' : b.Latches c) : a.Latches c :=
  ⟨h'.lnk ∘ h.lnk, h'.ras ∘ h.ras, h'.cls ∘ h.cls, h'.plt ∘ h.plt, h'.phase.trans h.phase⟩

section
variable (s : State)

theorem State.rasterFault_latches (why : RasterReason) (h : Half) : s.sup.Latches (s.rasterFault why h).sup := ⟨id, fun _ => rfl, id, id, rfl⟩

theorem State.settleHeader_latches (id : BankId) (h : Header) (v : Verdict) : s.sup.Latches (s.settleHeader id h v).sup := by
  cases v with
  | bind bd => exact .of_eq (by simp [State.settleHeader])
  | drain why => exact State.rasterFault_latches { s with raster := _ } why h.handle
  | discard why => exact State.rasterFault_latches { s with raster := _ } why h.handle

theorem State.streamGo_latches : s.sup.Latches s.streamGo.sup := by
  have hexam : s.sup.Latches s.takeHeader.examineHeader.sup := by
    rcases s.takeHeader.examineHeader_cases with heq | ⟨id, w0, w1, w2, w3, rest, _, _, _, heq⟩
    · exact .of_eq (by rw [heq]; simp)
    · rw [heq]
      exact (Supervision.Latches.of_eq (by simp)).trans (State.settleHeader_latches _ _ _ _)
  exact hexam.trans (.of_eq (by simp [State.streamGo]))

theorem State.settleFill_latches (f : Fill) : s.sup.Latches (s.settleFill f).sup := by
  unfold State.settleFill
  split
  · exact .refl _
  · split
    · split
      · split <;> exact .of_eq (by simp)
      all_goals exact .refl _
    · exact (Supervision.Latches.of_eq (by simp)).trans (State.rasterFault_latches _ _ _)

theorem State.flushPort_latches : s.sup.Latches s.flushPort.sup := by
  refine Supervision.Latches.trans (b := s.abandonFill.sup) ?_ (.of_eq (by simp [State.flushPort]))
  unfold State.abandonFill
  split
  · split
    · exact (Supervision.Latches.of_eq (by simp)).trans (State.rasterFault_latches _ _ _)
    · exact .refl _
  all_goals exact .refl _

/-! What follows a change of something else. -/

theorem State.streamGo_latches_of_sup {s u : State} (h : u.sup = s.sup) : s.sup.Latches u.streamGo.sup :=
  (Supervision.Latches.of_eq h).trans u.streamGo_latches

theorem State.endRemoved_latches (j : Job) : s.sup.Latches (s.endRemoved j).sup :=
  State.streamGo_latches_of_sup (by rw [State.freeBank_sup, State.dropJob_sup]; split <;> simp)

theorem State.tryOpen_latches : s.sup.Latches s.tryOpen.sup := by
  unfold State.tryOpen
  split
  · split
    · split
      · exact s.endRemoved_latches _
      · exact .refl _
    · exact .refl _
  · exact .refl _

theorem State.tryOpen_latches_of_sup {s u : State} (h : u.sup = s.sup) : s.sup.Latches (u.tryOpen).sup :=
  (Supervision.Latches.of_eq h).trans (u.tryOpen_latches)

theorem State.reportPanelReady_latches : s.sup.Latches s.reportPanelReady.sup := by
  unfold State.reportPanelReady
  split
  · exact State.tryOpen_latches_of_sup rfl
  · exact .refl _

theorem State.reportArrived_latches : s.sup.Latches s.reportArrived.sup := by
  unfold State.reportArrived
  split
  · exact State.tryOpen_latches_of_sup rfl
  · exact .refl _

theorem State.preparationFault_latches (why : PathFault) : s.sup.Latches (s.preparationFault why).sup := by
  unfold State.preparationFault
  split
  · split
    · exact s.endRemoved_latches _
    · exact State.streamGo_latches_of_sup (by simp)
  · exact .refl _

theorem State.reportPanelReady_latches_of_sup {s u : State} (h : u.sup = s.sup) : s.sup.Latches (u.reportPanelReady).sup :=
  (Supervision.Latches.of_eq h).trans (u.reportPanelReady_latches)

theorem State.reportArrived_latches_of_sup {s u : State} (h : u.sup = s.sup) : s.sup.Latches (u.reportArrived).sup :=
  (Supervision.Latches.of_eq h).trans (u.reportArrived_latches)

theorem State.preparationFault_latches_of_sup {s u : State} (why : PathFault) (h : u.sup = s.sup) : s.sup.Latches (u.preparationFault why).sup :=
  (Supervision.Latches.of_eq h).trans (u.preparationFault_latches why)

theorem State.pulse_latches (openMs : Nat) : s.sup.Latches (s.pulse openMs).sup := by
  unfold State.pulse
  split
  · split
    · unfold State.reachTarget
      dsimp only
      split
      · exact State.endRemoved_latches { s with dose := s.dose.countPulse } _
      · exact (State.streamGo_latches_of_sup (s := s) (by simp)).trans (.of_eq (State.takeJob_keeps _).2.2.1)
    · exact .refl _
  · exact .refl _

theorem State.settlePlate_latches (sl : Slot) : s.sup.Latches (s.settlePlate sl).sup := by
  unfold State.settlePlate
  dsimp only
  split
  · exact .refl _
  · split
    · exact .refl _
    · split
      · unfold State.plateInserted; split <;> exact .refl _
      · have hremoved : ∀ u : State, u.sup = s.sup → s.sup.Latches (u.removeLivePlate sl).sup := by
          intro u hu
          have hsup : (u.removeLivePlate sl).sup = { s.sup with plt := true } := by simp [State.removeLivePlate, State.failMaster, State.loseRecords, hu]
          rw [hsup]
          exact ⟨id, id, id, fun _ => rfl, rfl⟩
        unfold State.plateRemoved
        split
        case h_1 | h_2 => exact .refl _
        case h_3 | h_4 | h_5 | h_6 | h_7 => exact (hremoved (s.setPlate sl _) rfl).trans (State.streamGo_latches _)
        case h_8 => exact State.streamGo_latches_of_sup (by simp)
        all_goals exact .refl _

end

/-- Works latch flags and clear none. -/
theorem State.Works.latches {s t : State} (h : s.Works t) : s.sup.Latches t.sup := by
  cases h with
  | settlePlate sl => exact s.settlePlate_latches sl
  | release | retire | takeWord | endDrain | haltPreparing | endSpoiled | endReturned => exact State.streamGo_latches_of_sup (by simp)
  | stream => exact s.streamGo_latches
  | endFill f w rest =>
    exact (State.settleFill_latches { s.setBank f.bank _ with raster := _ } (f.move w)).trans (State.streamGo_latches _)
  | flushPort => exact s.flushPort_latches
  | panelReady => exact State.reportPanelReady_latches_of_sup rfl
  | arrive => exact State.reportArrived_latches_of_sup rfl
  | failMove why => exact State.preparationFault_latches_of_sup why rfl
  | preparationFault why => exact s.preparationFault_latches why
  | tryOpen => exact s.tryOpen_latches
  | pulse openMs => exact s.pulse_latches openMs
  | endGate => exact State.tryOpen_latches_of_sup rfl
  | endRemoved j => exact s.endRemoved_latches j
  | haltPath => unfold State.haltPath; split <;> exact .refl _
  | setLamp => unfold State.setLamp; split <;> exact .refl _
  | tellPins | tellPlate | dropReport | deleteNext | endDeletion | openMaster | closeMaster | place | rekeyWithin | rekeyMove | setClass
  | replace | queueListing | resume | awaitGate | startGate | setTables | startPeriod | takeLowHalf | turnOutbound | turnInbound
  | beginListing | sendLowHalf | sendHighHalf | takeJob | showStrobe | goMove | endMotionDrain | haltIdle => exact .of_eq (by simp)

/-- No pending answer is that of a clearing STATUS. -/
def State.clearsNothing (s : State) : Prop := ∀ p, s.answer = some p → p.clearing = false

/-- A change of the link interface latches flags and clears none, while no clearing STATUS is answered (R191). -/
theorem State.Links.latches {s t : State} (h : s.Links t) (hs : s.clearsNothing) : s.sup.Latches t.sup ∧ t.clearsNothing := by
  have hnone : ∀ u : State, u.answer = none → u.clearsNothing := fun u hu p hp => by simp [hu] at hp
  cases h with
  | beginFrame | receive | leaveFrame | restartCount | closeGap | tellBit | holdCause | startSlot => exact ⟨.refl _, hs⟩
  | enterSync => exact ⟨.refl _, hnone _ rfl⟩
  | failFrame => exact ⟨⟨fun _ => rfl, id, id, id, rfl⟩, hnone _ rfl⟩
  | endRoll => exact ⟨.refl _, hnone _ rfl⟩
  | readStatusByte =>
    have hno : ¬ (s.answer.map (·.clearing)).getD false = true := by
      cases ha : s.answer with
      | none => simp
      | some p => simp [hs p ha]
    unfold State.readStatusByte
    split
    · dsimp only
      rw [if_neg hno]
      exact ⟨.refl _, hs⟩
    · exact ⟨.refl _, hs⟩
  | completeTail =>
    unfold State.completeTail
    split
    · split
      · exact ⟨.refl _, hs⟩
      · exact ⟨.refl _, hnone _ rfl⟩
    · exact ⟨.refl _, hs⟩
  | settleLoss =>
    have hclash : s.sup.Latches (if (s.answer.map (·.clashes)).getD false = true then s.latchClash else s).sup := by
      split
      · exact ⟨id, id, fun _ => rfl, id, rfl⟩
      · exact .refl _
    unfold State.settleLoss
    dsimp only
    split
    · exact ⟨hclash, hnone _ rfl⟩
    · exact ⟨hclash, hnone _ rfl⟩

theorem State.Reaches.latches {s t : State} (h : s.Reaches t) (hs : s.clearsNothing) : s.sup.Latches t.sup ∧ t.clearsNothing := by
  induction h with
  | refl => exact ⟨.refl _, hs⟩
  | tail _ hdoes ih =>
    obtain ⟨hlatch, hclear⟩ := ih
    cases hdoes with
    | work hwork => exact ⟨hlatch.trans hwork.latches, fun p hp => hclear p (hwork.keeps_link.2 ▸ hp)⟩
    | link hl =>
      obtain ⟨hlatch', hclear'⟩ := hl.latches hclear
      exact ⟨hlatch.trans hlatch', hclear'⟩

/-- Settles O52: a run of effects clears no flag, a delivery leaves the flags, and no command of a part out of reset ends a reset. -/
theorem latchedFlagsStayUntilCleared : Obligations.LatchedFlagsStayUntilCleared := by
  intro c s t h hs ht hclear
  obtain ⟨u, hu, hcomes⟩ := exec_comes c s
  obtain rfl : u = t := Host.Outcome.next.inj (hu.symm.trans h)
  have hlatch : s.sup.Latches u.sup := by
    clear hu h
    cases hcomes with
    | run hreach => exact (hreach.latches hclear).1
    | deliver a dst code hreach _ => exact (hreach.latches hclear).1.trans (.of_eq (by simp))
    | reset hreach phase p plates rec hphase => exact absurd hs (hphase ht)
  exact ⟨hlatch.lnk, hlatch.ras, hlatch.cls, hlatch.plt⟩

end Sys2Proof.Machine

/-! The step (O1), and the hard reset: what a command can do during one (O3), the values it leaves (O4, O5), and the plate filters (O6). -/

namespace Sys2Proof.Machine

/-- Settles O1. -/
theorem stepRunsFrontCommand : Obligations.StepRunsFrontCommand :=
  ⟨fun c rest s h => by rw [step, h], fun s h => by rw [step, h]⟩

/-! ## A reset holds every block -/

theorem State.whileRunning_of_held (s : State) (f : State → State) (h : s.sup.phase ≠ .running) : s.whileRunning f = s := if_neg h

/-- During a reset every command but its end and a power-up changes the levels of the pins alone. -/
theorem exec_of_held {c : Instr} {s : State} (h : s.sup.phase ≠ .running) (hpower : c ≠ .powerUp)
    (hend : ∀ strap plates dir a f, c ≠ .hardResetEnd strap plates dir a f) :
    exec c s = .next s ∨ (∃ p, exec c s = .next { s with pins := p }) ∨
      ∃ sl raw, exec c s = .next (s.setPlate sl { s.plates[sl] with raw := raw }) := by
  have hreset : s.outOfReset = false := decide_eq_false h
  have hready : s.ready = false := by simp [State.ready, hreset]
  have hpins : ∀ p f, ({ s with pins := p } : State).whileRunning f = { s with pins := p } :=
    fun p f => State.whileRunning_of_held _ f h
  cases c with
  | plateLevelChange sl level =>
    by_cases hraw : s.plates[sl].raw = level
    · exact .inl (congrArg Host.Outcome.next (if_pos hraw))
    · refine .inr (.inr ⟨sl, level, congrArg Host.Outcome.next ((if_neg hraw).trans ?_)⟩)
      rw [hreset, Bool.or_false]
  | halfWordIn edge =>
    exact .inl (congrArg Host.Outcome.next (if_neg (by simp [State.readyAt, hready])))
  | halfWordOut => exact .inl (congrArg Host.Outcome.next (if_neg (by simp [hready])))
  | flush att => exact .inr (.inl ⟨_, congrArg Host.Outcome.next (hpins _ _)⟩)
  | dirRise => exact .inr (.inl ⟨_, congrArg Host.Outcome.next (hpins _ _)⟩)
  | dirFall => exact .inr (.inl ⟨_, congrArg Host.Outcome.next (hpins _ _)⟩)
  | attention openMs => exact .inr (.inl ⟨_, congrArg Host.Outcome.next (hpins _ _)⟩)
  | flushFall => exact .inr (.inl ⟨_, rfl⟩)
  | hardResetBegin =>
    refine .inr (.inl ⟨{ s.pins with attention := true, flush := true }, congrArg Host.Outcome.next ?_⟩)
    split
    next hrun => exact absurd hrun h
    all_goals rfl
  | powerUp => exact absurd rfl hpower
  | hardResetEnd strap plates dir a f => exact absurd rfl (hend strap plates dir a f)
  | _ => exact .inl (congrArg Host.Outcome.next (State.whileRunning_of_held _ _ h))

/-- Settles O3: a change of a raw plate level leaves the other filters, and every other command leaves all of them. -/
theorem resetHoldsEveryBlock : Obligations.ResetHoldsEveryBlock := by
  intro c s h hpower hend
  rcases exec_of_held h hpower hend with heq | ⟨p, heq⟩ | ⟨sl, raw, heq⟩
  · exact ⟨s, heq, rfl, fun _ => rfl⟩
  · exact ⟨_, heq, rfl, fun _ => rfl⟩
  · refine ⟨_, heq, rfl, fun o => ?_⟩
    by_cases ho : o = sl
    · subst ho; simp [State.setPlate]
    · simp [State.setPlate, Fin.val_ne_of_ne (Ne.symm ho)]

/-! ## The values that a reset leaves -/

theorem sampledPlates_getElem (plates : BitVec 6) (sl : Slot) : (sampledPlates plates)[sl] = plates.getLsbD sl.val := by
  match sl with
  | 0 | 1 | 2 | 3 | 4 | 5 => rfl

/-- R199: every block at its reset values. -/
theorem State.hardReset_atResetValues (s : State) (phase : ResetPhase) (p : Pins) (plates : Vector Bool 6) (rec : Bool) :
    (s.hardReset phase p plates rec).atResetValues p.strap p.dir (fun sl => plates[sl]) := by
  have hbanks : ∀ id, ((s.hardReset phase p plates rec).bank id).state = .free ∧ ((s.hardReset phase p plates rec).bank id).binding = none :=
    fun id => by cases id <;> exact ⟨rfl, rfl⟩
  refine ⟨fun sl => ?_, fun sl => ?_, rfl, rfl, fun e => ?_, by simp only [State.hardReset, Directory.reset], rfl, rfl, hbanks, rfl, rfl, rfl, rfl, rfl, rfl, rfl, rfl, rfl, ?_, rfl,
    rfl, rfl, rfl, rfl, rfl, rfl, rfl, rfl, rfl, rfl, rfl, rfl, rfl, rfl, rfl, rfl, rfl⟩
  · simp [State.hardReset, PlateFilter.reset]
  · simp [State.hardReset, State.master, Master.reset]
  · simp [State.hardReset, Directory.reset]
  · intro sl; simp [State.hardReset, DoseUnit.reset]

/-- R182, R198: while a reset is under way every output is low, and LINK is released. -/
theorem State.outputs_of_held {s : State} (h : s.outOfReset = false) :
    s.alert = false ∧ s.shutter = false ∧ s.ready = false ∧ (∀ n us, s.pullsLink n us = false) ∧ (∀ us, s.lampPwm us = false) ∧
      s.pnlSel = false ∧ (∀ us, s.pnlShow us = false) ∧ (∀ us, s.motGo us = false) ∧ (∀ b, s.motClk b = false) ∧
      (∀ n, s.motDat n = false) := by
  simp [State.alert, State.shutter, State.ready, State.pullsLink, State.linkBit, State.drivesLink, State.lampPwm, State.pnlSel, State.pnlShow,
    State.motGo, State.motClk, State.motDat, h]

theorem State.hardReset_words (s : State) (phase : ResetPhase) (p : Pins) (plates : Vector Bool 6) (rec : Bool) (id : BankId) :
    ((s.hardReset phase p plates rec).bank id).words = (s.bank id).words := by cases id <;> rfl

/-- A reset that ends, or goes on, samples the levels of its pins. -/
theorem State.hardReset_sampled (s : State) (phase : ResetPhase) (link : LinkPins) (plates : BitVec 6) (dir a f : Bool) {t : State}
    (ht : t = s.hardReset phase { strap := link.strap, dir := dir, attention := a, flush := f } (sampledPlates plates) link.recessive) :
    t.atResetValues link.strap dir (fun sl => plates.getLsbD sl.val) ∧
      t.link.gapCount = (link.recessive && decide (link.strap ≠ 0) && decide (t.sup.phase = .running)) ∧
      t.pins = { strap := link.strap, dir := dir, attention := a, flush := f } ∧
      t.sup = { lnk := decide (link.strap = 0 ∧ phase = .running), ras := false, cls := false, plt := false, phase := phase } := by
  subst ht
  refine ⟨?_, ?_, rfl, rfl⟩
  · have h := s.hardReset_atResetValues phase { strap := link.strap, dir := dir, attention := a, flush := f } (sampledPlates plates) link.recessive
    simpa only [sampledPlates_getElem] using h
  · exact Bool.and_right_comm ..

theorem State.beginReset_atResetValues (s : State) (phase : ResetPhase) (p : Pins) :
    (s.beginReset phase p).atResetValues p.strap p.dir (fun sl => s.plates[sl].raw) := by
  have h := s.hardReset_atResetValues phase p s.rawPlates false
  simpa [State.rawPlates, State.beginReset] using h

/-- Settles O4: the end of a reset by its phase and the two lines, and the two beginnings. -/
theorem hardResetsGiveResetValues : Obligations.HardResetsGiveResetValues := by
  refine ⟨fun link plates dir a f s => ⟨fun h => ?_, fun h => ?_⟩, fun c s hc => ?_⟩
  · exact congrArg Host.Outcome.next (by simp only [h])
  · cases hphase : s.sup.phase with
    | running => exact absurd hphase h
    | heldByLines =>
      by_cases hlow : a = false ∧ f = false
      · obtain ⟨hvalues, hgap, hpins, hsup⟩ := s.hardReset_sampled .running link plates dir a f rfl
        refine ⟨_, congrArg Host.Outcome.next (by simp only [hphase, if_pos hlow]), hvalues, hgap, hpins, ?_, ?_, by simp, by simp⟩
        · simp [hlow]
        · simp [hsup]
      · obtain ⟨hvalues, hgap, hpins, hsup⟩ := s.hardReset_sampled .heldByLines link plates dir a f rfl
        refine ⟨_, congrArg Host.Outcome.next (by simp only [hphase, if_neg hlow]), hvalues, hgap, hpins, ?_, ?_, by simp, by simp⟩
        · simp [hsup]
        · exact fun _ ha hf => absurd ⟨ha, hf⟩ hlow
    | powerUp =>
      by_cases hhigh : a = true ∧ f = true
      · obtain ⟨hvalues, hgap, hpins, hsup⟩ := s.hardReset_sampled .heldByLines link plates dir a f rfl
        refine ⟨_, congrArg Host.Outcome.next (by simp only [hphase, if_pos hhigh]), hvalues, hgap, hpins, by simp, by simp, ?_, ?_⟩
        · simp [hsup]
        · simp [hhigh]
      · obtain ⟨hvalues, hgap, hpins, hsup⟩ := s.hardReset_sampled .running link plates dir a f rfl
        refine ⟨_, congrArg Host.Outcome.next (by simp only [hphase, if_neg hhigh]), hvalues, hgap, hpins, by simp, by simp, ?_, ?_⟩
        · exact fun _ ha hf => absurd ⟨ha, hf⟩ hhigh
        · simp [hsup]
  · obtain ⟨phase, p, hheld, hexec, hph, hp, hstrap, hdir⟩ : ∃ phase p, phase ≠ .running ∧ exec c s = .next (s.beginReset phase p) ∧
        phase = (if c = .powerUp then .powerUp else .heldByLines) ∧
        p = (if c = .powerUp then s.pins else { s.pins with attention := true, flush := true }) ∧ p.strap = s.pins.strap ∧
        p.dir = s.pins.dir := by
      rcases hc with ⟨rfl, hrun⟩ | rfl
      · exact ⟨.heldByLines, { s.pins with attention := true, flush := true }, by simp, congrArg Host.Outcome.next (by simp only [hrun]),
          rfl, rfl, rfl, rfl⟩
      · exact ⟨.powerUp, s.pins, by simp, rfl, rfl, rfl, rfl, rfl⟩
    obtain ⟨halert, hshutter, hready, hlink, hlamp, hsel, hshow, hgo, hclk, hdat⟩ :=
      State.outputs_of_held (s := s.beginReset phase p) (decide_eq_false hheld)
    refine ⟨s.beginReset phase p, hexec, hstrap ▸ hdir ▸ s.beginReset_atResetValues phase p, ?_, hp, halert, hshutter, hready, hlink, rfl,
      hlamp, hsel, hshow, hgo, hclk, hdat, s.hardReset_words phase p _ _⟩
    rw [← hph]
    simp [State.beginReset, State.hardReset, Supervision.reset, hheld]

/-- The model's reset is a hard reset of a part with blank banks. -/
theorem State.reset_eq_hardReset : State.reset = State.reset.hardReset .running .atReset (Vector.replicate 6 false) true := by
  simp only [State.hardReset, Vector.map_replicate]
  rfl

/-- Settles O5: the values of a reset, with the blank banks of the model's own reset. -/
theorem resetStateHasResetValues : Obligations.ResetStateHasResetValues := by
  refine ⟨?_, rfl, rfl, rfl, rfl, fun _ => rfl, fun _ => rfl, fun _ => rfl, fun _ => rfl, rfl, fun id a => by cases id <;> rfl⟩
  rw [State.reset_eq_hardReset]
  have hplates : (fun sl : Slot => (Vector.replicate 6 false)[sl]) = fun _ => false := funext fun sl => by simp
  exact hplates ▸ State.reset.hardReset_atResetValues .running .atReset (Vector.replicate 6 false) true

/-! ## What every step keeps holds after a reset (O60) -/

theorem State.hardReset_master (s : State) (phase : ResetPhase) (p : Pins) (plates : Vector Bool 6) (rec : Bool) (sl : Slot) :
    (s.hardReset phase p plates rec).master sl = .reset plates[sl] := by simp [State.hardReset, State.master]

/-- Without records, master fields, bindings and a job there is nothing to disagree. -/
theorem State.hardReset_filmConsistent (s : State) (phase : ResetPhase) (p : Pins) (plates : Vector Bool 6) (rec : Bool) :
    (s.hardReset phase p plates rec).filmConsistent := by
  have htable : (s.hardReset phase p plates rec).dir.keyTable = [] := rfl
  have hfields : ∀ sl, ((s.hardReset phase p plates rec).master sl).fields = none := fun sl => by
    rw [State.hardReset_master]; rfl
  have hjob : (s.hardReset phase p plates rec).seq.job = none := rfl
  have hbinding : ∀ id, ((s.hardReset phase p plates rec).bank id).binding = none := fun id => by cases id <;> rfl
  refine ⟨Directory.reset_consistent, s.hardReset_sound phase p plates rec, s.hardReset_panelConsistent phase p plates rec,
    s.hardReset_portConsistent phase p plates rec, s.hardReset_pathConsistent phase p plates rec, by simp [htable], by simp [htable], ?_, ?_,
    ?_, ?_, ?_, by simp [htable], by simp [htable], ?_, ?_⟩
  · intro sl _ f hf; simp [hfields sl] at hf
  · intro sl sl' _ _ _ f hf; simp [hfields sl] at hf
  · simp [State.bindingFits, hbinding]
  · simp [State.bindingFits, hbinding]
  · intro hsome; simp [State.hardReset, PanelStore.reset, Bank.reset] at hsome
  · intro sl _ f hf; simp [hfields sl] at hf
  · intro j hj; simp [hjob] at hj

/-- Settles O60: every invariant holds of every hard reset. -/
theorem resetIsConsistent : Obligations.ResetIsConsistent := by
  refine ⟨reset_memoryConsistent, ?_⟩
  rw [State.reset_eq_hardReset]
  exact ⟨Directory.reset_consistent, State.hardReset_sound .., State.hardReset_panelConsistent .., State.hardReset_portConsistent ..,
    State.hardReset_pathConsistent .., State.hardReset_motionConsistent .., State.hardReset_linkConsistent ..,
    State.hardReset_filmConsistent ..⟩

/-! ## Plate filters -/

theorem State.settlePlate_of_settling {s : State} {sl : Slot} {raw debounced : Bool}
    (h : s.plates[sl] = { raw := raw, debounced := debounced, settling := true }) :
    s.settlePlate sl =
      if raw = debounced then s.setPlate sl { raw := raw, debounced := debounced, settling := false }
      else if raw then (s.setPlate sl { raw := raw, debounced := raw, settling := false }).plateInserted sl
      else (s.setPlate sl { raw := raw, debounced := raw, settling := false }).plateRemoved sl := by
  simp [State.settlePlate, h]

/-- Settles O6: the outcomes of the filter, and of an insertion or removal that a master's state does not heed. -/
theorem plateLevelsSettle : Obligations.PlateLevelsSettle := by
  intro sl s hrun
  have hout : s.outOfReset = true := decide_eq_true hrun
  refine ⟨fun level hne => ?_, congrArg Host.Outcome.next (if_pos rfl), fun hstopped => ?_, fun hsettling heq => ?_, fun hplate hempty => ?_,
    fun level hplate hstate => ?_⟩
  · exact congrArg Host.Outcome.next ((if_neg hne).trans (by rw [hout, Bool.or_true]))
  · rw [exec_plateSettleExpiry_of_running sl s hrun, State.settlePlate]
    exact congrArg Host.Outcome.next (if_pos hstopped)
  · rw [exec_plateSettleExpiry_of_running sl s hrun, State.settlePlate]
    exact congrArg Host.Outcome.next ((if_neg (by simp only [hsettling, Bool.true_eq_false, not_false_eq_true])).trans (if_pos heq))
  · rw [exec_plateSettleExpiry_of_running sl s hrun, State.settlePlate_of_settling hplate]
    simp [State.plateInserted, State.mapMaster, hempty]
  · rw [exec_plateSettleExpiry_of_running sl s hrun, State.settlePlate_of_settling hplate]
    rcases hstate with hst | hst <;> cases level <;> simp [State.plateInserted, State.plateRemoved, hst]

end Sys2Proof.Machine

/-! O59 fails. `State.filmConsistent` lets a LOST record keep a bank field while that bank is SHOWN for a job whose plate is gone. No run
reaches such a state (`State.loseRecords` clears the field), but nothing in the predicate excludes it, and the removal end then frees the bank and
leaves the record pointing at a bank without a binding. -/

namespace Sys2Proof.Machine

/-- A record of a failed master that has kept its bank field. -/
def lostWithBank : Record :=
  { entry := 0, key := zeroKey, slot := 0, cell := 0, state := .lost, retirePending := false, cls := 0, source := 0, bank := some .a,
    openTime := none, clamped := none }

/-- The master of a removed plate. -/
def removedMaster : Master :=
  { state := .failed, generation := 0, failure := some .plateRemoved,
    fields := some { format := .g1, label := 0, accountLow := 0, accountHigh := 0, partsExposed := 0, indexBindings := 0,
                     cells := Format.g1.freshCells } }

/-- A document job in PREPARING whose panel is ready and whose move has not arrived. -/
def orphanJob : Job :=
  { bank := .a, kind := .document 0 0, slot := 0, target := 16, limitMs := 20, fogLimit := 0, arrived := false, panelReady := true }

/-- The state that refutes O59: the removal report of slot 0 waits, and bank A is SHOWN for the job of the lost record. -/
def keptBank : State :=
  { State.reset with
    pending := [.plateRemovalReport]
    masters := (State.reset.setMaster 0 removedMaster).masters
    removalReports := [0]
    dir := { stamps := Vector.replicate 1024 0, freeList := (List.finRange 1024).filter (fun e => decide (e ≠ 0)), keyTable := [lostWithBank] }
    panel := { State.reset.panel with bankA := { state := .shown, binding := some (.record 0), rows := 0, words := [] } }
    seq := { path := .preparing, haltPending := false, fault := .none, job := some orphanJob, panelTimer := false } }

namespace keptBank

theorem master_zero : keptBank.master 0 = removedMaster := rfl

theorem master_of_ne {sl : Slot} (h : sl ≠ 0) : keptBank.master sl = Master.reset false :=
  (State.reset.setMaster_master_ne h removedMaster).trans (by simp [State.master, State.reset])

theorem resolve_zero : keptBank.resolve 0 = some lostWithBank := by
  simp [State.resolve, keptBank, handleEntry, handleStamp, lostWithBank]

theorem orphaned : keptBank.jobOrphaned := ⟨orphanJob, rfl, by decide⟩

theorem directoryConsistent : keptBank.dir.consistent := by
  have hdir : keptBank.dir = { stamps := Vector.replicate 1024 0, freeList := (List.finRange 1024).filter (fun e => decide (e ≠ 0)),
                               keyTable := [lostWithBank] } := rfl
  rw [hdir]
  simp [Directory.consistent, Directory.occupied, lostWithBank, (List.nodup_finRange 1024).filter]

theorem mastersConsistent : keptBank.mastersConsistent := by
  refine ⟨List.nodup_nil, fun sl => ?_⟩
  have hplate : keptBank.platePresent sl = false := by simp [State.platePresent, keptBank, State.reset, PlateFilter.reset]
  have hqueue : sl ∉ keptBank.releaseQueue := List.not_mem_nil
  unfold State.masterConsistent
  rw [hplate]
  rcases eq_or_ne sl 0 with rfl | hne
  · rw [master_zero]
    refine ⟨rfl, fun f hf => ?_, fun _ => rfl, fun _ => .inl rfl, rfl, by simp [removedMaster, hqueue]⟩
    obtain rfl := Option.mem_some.mp hf
    exact Format.freshCells_length .g1
  · rw [master_of_ne hne]
    simp [Master.reset, MasterState.hasFields, MasterState.fitsPlate, hqueue]

theorem panelConsistent : keptBank.panelConsistent := by
  refine ⟨List.nodup_nil, ?_, ?_, by simp [keptBank]⟩ <;>
    simp [State.bankConsistent, keptBank, State.bank, PanelStore.bank, State.reset, Bank.blank, RasterPort.reset, Decoder.fillBank, orphanJob]

theorem portConsistent : keptBank.portConsistent := by
  simp [State.portConsistent, keptBank, State.reset, RasterPort.reset, RasterPort.decoderFits, RasterPort.listingFits]

theorem pathConsistent : keptBank.pathConsistent := by
  simp [State.pathConsistent, State.jobFits, Job.figuresFit, State.awaitsPanel, keptBank, orphanJob, State.reset, DoseUnit.reset,
    DoseUnit.gateRuns]

theorem filmConsistent : keptBank.filmConsistent := by
  have htable : ∀ r ∈ keptBank.dir.keyTable, r = lostWithBank := fun r hr => List.mem_singleton.mp hr
  have hfailed : (keptBank.master 0).state = .failed := rfl
  have hother : ∀ sl, sl ≠ 0 → (keptBank.master sl).state = .empty ∧ (keptBank.master sl).fields = none := fun sl hne => by
    rw [master_of_ne hne]; exact ⟨rfl, rfl⟩
  have hbound : (keptBank.bank .a).state = .shown := rfl
  refine ⟨directoryConsistent, mastersConsistent, panelConsistent, portConsistent, pathConsistent, fun r hr => ?_,
    List.pairwise_singleton _ _, fun sl hmoves f hf => ?_, fun sl _ _ hopen => ?_, .inl ⟨hbound, orphaned⟩, trivial, fun _ _ => orphaned,
    fun r hr id hid => ?_, fun r hr _ _ => ?_, fun sl hlive f hf => ?_, fun j hj => ?_⟩
  · rw [htable r hr]
    refine ⟨⟨_, rfl, by decide⟩, ?_, ?_, fun _ => .inl rfl, ?_⟩ <;> decide
  · rcases eq_or_ne sl 0 with rfl | hne
    · simp [hfailed, MasterState.mapMoves] at hmoves
    · simp [(hother sl hne).2] at hf
  · rcases eq_or_ne sl 0 with rfl | hne
    · simp [hfailed] at hopen
    · simp [(hother sl hne).1] at hopen
  · rw [htable r hr] at hid ⊢
    obtain rfl : id = .a := (Option.mem_some.mp hid).symm
    exact ⟨0, rfl, resolve_zero⟩
  · rw [htable r hr]; rfl
  · rcases eq_or_ne sl 0 with rfl | hne
    · simp [hfailed, MasterState.live] at hlive
    · simp [(hother sl hne).2] at hf
  · obtain rfl : j = orphanJob := (Option.mem_some.mp hj).symm
    exact ⟨rfl, .inl orphaned⟩

/-- The removal report ends the job: its bank is FREE, and the key table is as it was. -/
theorem step_keptBank : ∃ t, step keptBank = .next t ∧ t.bank .a = { state := .free, binding := none, rows := 0, words := [] } ∧
    t.dir.keyTable = [lostWithBank] := ⟨_, rfl, rfl, rfl⟩

end keptBank

/-- Refutes O59: a bank field that a LOST record has kept (a state that no run reaches) names an unbound bank after the removal end. -/
theorem not_stepKeepsTheFilm : ¬ Obligations.StepKeepsTheFilm := by
  intro hkeeps
  obtain ⟨t, hstep, hbank, htable⟩ := keptBank.step_keptBank
  obtain ⟨-, -, -, -, -, -, -, -, -, -, -, -, hbanks, -⟩ := hkeeps keptBank t keptBank.filmConsistent hstep
  obtain ⟨h, hbinding, -⟩ := hbanks lostWithBank (htable ▸ List.mem_singleton_self _) .a rfl
  rw [hbank] at hbinding
  exact nomatch hbinding

end Sys2Proof.Machine

/-! The requests at their dispatch (R184 to R188): each request row is the dispatch of its code with its parameter bytes, a portion received
whole is handed on as it was sent, and an answer with an ACK or DATA tail is the state of that tail. Settles O11, O28 and O29. -/

namespace Sys2Proof.Machine

/-! ## Fields read back (R193) -/

theorem extractLsb'_append {w m n : Nat} (x : BitVec w) (start : Nat) :
    x.extractLsb' (start + n) m ++ x.extractLsb' start n = x.extractLsb' start (m + n) :=
  BitVec.extractLsb'_append_extractLsb'_eq_extractLsb' rfl

theorem ofBytes2_extract (h : Half) : ofBytes2 (h.extractLsb' 8 8) (h.extractLsb' 0 8) = h :=
  (extractLsb'_append h 0).trans BitVec.extractLsb'_eq_self

theorem ofBytes5_extract (a : Account) :
    ofBytes5 (a.extractLsb' 32 8) (a.extractLsb' 24 8) (a.extractLsb' 16 8) (a.extractLsb' 8 8) (a.extractLsb' 0 8) = a := by
  have h1 : a.extractLsb' 32 8 ++ a.extractLsb' 24 8 = a.extractLsb' 24 16 := extractLsb'_append a 24
  have h2 : a.extractLsb' 24 16 ++ a.extractLsb' 16 8 = a.extractLsb' 16 24 := extractLsb'_append a 16
  have h3 : a.extractLsb' 16 24 ++ a.extractLsb' 8 8 = a.extractLsb' 8 32 := extractLsb'_append a 8
  have h4 : a.extractLsb' 8 32 ++ a.extractLsb' 0 8 = a.extractLsb' 0 40 := extractLsb'_append a 0
  rw [ofBytes5, h1, h2, h3, h4]
  exact BitVec.extractLsb'_eq_self

/-- A key read back from its seven bytes. -/
theorem key_ofBytes5 (k : Key) :
    { account := ofBytes5 (k.account.extractLsb' 32 8) (k.account.extractLsb' 24 8) (k.account.extractLsb' 16 8)
        (k.account.extractLsb' 8 8) (k.account.extractLsb' 0 8), cycle := k.cycle, page := k.page : Key } = k :=
  congrArg (fun a => { account := a, cycle := k.cycle, page := k.page : Key }) (ofBytes5_extract k.account)

/-! ## A request row is the taking of its code with its parameter bytes -/

/-- A unit whose parameters are read back gives the same taking. -/
theorem exec_congr_unit {c : Instr} {s : State} {dst : Addressing} {code : Byte} {unit unit' : State → Answer}
    (hexec : exec c s = .next (s.request dst code unit)) (hunit : unit' = unit) : exec c s = .next (s.request dst code unit') :=
  hunit ▸ hexec

theorem exec_of_requestParts {c : Instr} {dst : Addressing} {src : Node} {code : Byte} {params : List Byte}
    (h : requestParts c = some (dst, src, code, params)) (s : State) : exec c s = .next (s.request dst code (serve dst src code params)) := by
  cases c with
  | status | masterClose | masterState | masterRelease | indexRead | listing | titleSummary | halt | resume | calibrate | setTrim | setLamp =>
    cases h; rfl
  | masterOpen _ _ slot format label low high =>
    cases h
    refine exec_congr_unit (unit := unitMasterOpen dst src slot format label low high) rfl ?_
    change unitMasterOpen dst src slot format (ofBytes2 _ _) (ofBytes5 _ _ _ _ _) (ofBytes5 _ _ _ _ _) = _
    rw [ofBytes2_extract, ofBytes5_extract, ofBytes5_extract]
  | place _ _ k cls => cases h; exact exec_congr_unit (unit := unitPlace dst src k cls) rfl (congrArg (unitPlace dst src · cls) (key_ofBytes5 k))
  | lookup _ k => cases h; exact exec_congr_unit (unit := unitLookup src k) rfl (congrArg (unitLookup src) (key_ofBytes5 k))
  | groupLookup _ k => cases h; exact exec_congr_unit (unit := unitGroupLookup src k) rfl (congrArg (unitGroupLookup src) (key_ofBytes5 k))
  | fetch _ _ hd => cases h; exact exec_congr_unit (unit := unitFetch dst src hd) rfl (congrArg (unitFetch dst src) (ofBytes2_extract hd))
  | rekey _ _ hd k =>
    cases h
    exact exec_congr_unit (unit := unitRekey dst src hd k) rfl (congrArg₂ (unitRekey dst src) (ofBytes2_extract hd) (key_ofBytes5 k))
  | setClass _ _ hd cls =>
    cases h; exact exec_congr_unit (unit := unitSetClass dst src hd cls) rfl (congrArg (unitSetClass dst src · cls) (ofBytes2_extract hd))
  | retire _ _ hd => cases h; exact exec_congr_unit (unit := unitRetire dst src hd) rfl (congrArg (unitRetire dst src) (ofBytes2_extract hd))
  | replace _ _ hd => cases h; exact exec_congr_unit (unit := unitReplace dst src hd) rfl (congrArg (unitReplace dst src) (ofBytes2_extract hd))
  | setDose _ _ table index value =>
    cases h
    exact exec_congr_unit (unit := unitSetDose dst src table index value) rfl (congrArg (unitSetDose dst src table index) (ofBytes2_extract value))
  | _ => exact nomatch h

/-- A request row taken is the answer of its code delivered. -/
theorem exec_of_takesRequest {c : Instr} {dst : Addressing} {src : Node} {code : Byte} {params : List Byte}
    (h : requestParts c = some (dst, src, code, params)) {s : State} (hreq : s.takesRequest) :
    exec c s = .next ((serve dst src code params s).deliver dst code) := by
  rw [exec_of_requestParts h, s.request_of_request dst code _ hreq.1 hreq.2]

/-! ## The dispatch of a code -/

/-- A group request of a code that only a direct target reaches. -/
theorem serve_group_silent (src : Node) {code : Byte} (params : List Byte) (s : State) (h1 : code ≠ 0x01) (h6 : code ≠ 0x06) (h7 : code ≠ 0x07) :
    serve .group src code params s = .silent s := by
  have hne : ∀ {k : Byte}, code ≠ k → code.toNat ≠ k.toNat := fun h heq => h (BitVec.eq_of_toNat_eq heq)
  unfold serve
  split
  case h_1 heq => exact absurd heq (hne h1)
  case h_6 heq => exact absurd heq (hne h6)
  case h_7 heq => exact absurd heq (hne h7)
  case h_22 => rfl
  all_goals split <;> rfl

/-- A group PLACE or LOOKUP while a long operation runs. -/
theorem serve_group_busy (src : Node) {code : Byte} (params : List Byte) {s : State} (hbusy : s.releaseQueue ≠ [])
    (h : code = 0x06 ∨ code = 0x07) : serve .group src code params s = .silent s := by
  have hb : s.busy = true := by simp [State.busy, hbusy]
  have hcode : code.toNat = 0x06 ∨ code.toNat = 0x07 := h.imp (congrArg BitVec.toNat) (congrArg BitVec.toNat)
  unfold serve
  split
  case h_6 => split <;> exact if_pos hb
  case h_7 =>
    split
    · exact if_pos hb
    · rfl
  case h_22 h6 h7 _ _ _ _ _ _ _ _ _ _ _ _ _ _ => exact (hcode.elim h6 h7).elim
  all_goals omega

/-- The dispatch of a direct request: the authority of its row, and the exemption of STATUS and MASTER_STATE (R186, R187). -/
theorem exec_direct_eq_dispatch {c : Instr} {src : Node} {code : Byte} {params : List Byte} {s : State}
    (h : requestParts c = some (.direct, src, code, params)) (hreq : s.takesRequest) :
    ∃ own, exec c s = .next ((dispatch .direct (s.authorises c) (decide (code = 0x01 ∨ code = 0x04)) own s).deliver .direct code) := by
  have hdispatch : ∀ {auth exempt own unit}, exec c s = .next (s.request .direct code unit) → unit s = dispatch .direct auth exempt own s →
      auth = s.authorises c → exempt = decide (code = 0x01 ∨ code = 0x04) →
      ∃ own, exec c s = .next ((dispatch .direct (s.authorises c) (decide (code = 0x01 ∨ code = 0x04)) own s).deliver .direct code) := by
    rintro _ _ own unit hexec hunit rfl rfl
    exact ⟨own, by rw [hexec, s.request_of_request .direct code unit hreq.1 hreq.2, hunit]⟩
  have hrecord : ∀ handle, s.recordAuthority src handle = decide (∀ r ∈ s.resolve handle, src = 0 ∨ src = r.source) := fun handle => by
    unfold State.recordAuthority
    cases s.resolve handle with
    | none => simp
    | some r => simpa [Config.supervisor] using Bool.decide_or _ _
  cases c with
  | status _ _ clear => cases h; exact hdispatch rfl rfl (Bool.decide_or _ _).symm rfl
  | masterOpen | masterClose | masterState | masterRelease | place | lookup | fetch | indexRead | listing | titleSummary | halt | resume
  | calibrate | setDose | setTrim | setLamp => cases h; exact hdispatch rfl rfl rfl rfl
  | rekey | setClass | retire | replace => cases h; exact hdispatch rfl rfl (hrecord _) rfl
  | _ => exact nomatch h

/-- Settles O11: the clauses of the dispatch, for every row at once. -/
theorem requestDispatchChecks : Obligations.RequestDispatchChecks := by
  intro c dst src code params s h hrun
  refine ⟨fun hiface => ?_, fun hiface => ⟨?_, ?_, ?_, ?_⟩⟩
  · rw [exec_of_requestParts h]
    rcases s.request_cases dst code (serve dst src code params) with ⟨_, heq, _⟩ | ⟨_, hsame⟩
    · exact absurd heq hiface
    · rw [hsame]
  · rintro rfl h1 h6 h7
    rw [exec_of_takesRequest h ⟨hrun, hiface⟩, serve_group_silent src params s h1 h6 h7, Answer.deliver_silent]
  · rintro rfl hcode hbusy
    rw [exec_of_takesRequest h ⟨hrun, hiface⟩, serve_group_busy src params hbusy hcode, Answer.deliver_silent]
  · rintro rfl hauth
    obtain ⟨own, heq⟩ := exec_direct_eq_dispatch h ⟨hrun, hiface⟩
    rw [heq, hauth, dispatch_unauthorised, Answer.deliver_ack_direct]
  · rintro rfl hauth hbusy h1 h4
    obtain ⟨own, heq⟩ := exec_direct_eq_dispatch h ⟨hrun, hiface⟩
    rw [heq, hauth, decide_eq_false (not_or.mpr ⟨h1, h4⟩), dispatch_busy own s hbusy, Answer.deliver_ack_direct]

/-! ## A portion received whole (R168, R172) -/

theorem byteOfBits_bits (b : Byte) :
    byteOfBits [b.getLsbD 7, b.getLsbD 6, b.getLsbD 5, b.getLsbD 4, b.getLsbD 3, b.getLsbD 2, b.getLsbD 1, b.getLsbD 0] = b := by
  revert b
  decide

/-- Fewer than eight bits stay in assembly. -/
theorem receive_partByte (bits : List Bool) (rx : RxBuffer) (h : rx.bits.length + bits.length < 8) :
    bits.foldl RxBuffer.receive rx = { rx with bits := rx.bits ++ bits } := by
  induction bits generalizing rx with
  | nil => simp
  | cons b rest ih =>
    simp only [List.length_cons] at h
    have hone : rx.receive b = { rx with bits := rx.bits ++ [b] } := by
      simp only [RxBuffer.receive, List.length_append, List.length_cons, List.length_nil]
      rw [if_neg (by omega)]
    rw [List.foldl_cons, hone, ih _ (by simpa using by omega)]
    simp

/-- The bits of whole bytes are received as the bytes. -/
theorem receive_bitsOf (bytes before : List Byte) :
    (bitsOf bytes).foldl RxBuffer.receive { bytes := before, bits := [] } = { bytes := before ++ bytes, bits := [] } := by
  induction bytes generalizing before with
  | nil => simp [bitsOf]
  | cons b rest ih =>
    have hbyte : [b.getLsbD 7, b.getLsbD 6, b.getLsbD 5, b.getLsbD 4, b.getLsbD 3, b.getLsbD 2, b.getLsbD 1, b.getLsbD 0].foldl RxBuffer.receive
        { bytes := before, bits := [] } = { bytes := before ++ [b], bits := [] } := by
      simp only [List.foldl_cons, List.foldl_nil, RxBuffer.receive, List.nil_append, List.cons_append, List.length_cons, List.length_nil,
        Nat.reduceAdd, Nat.reduceEqDiff, if_false, if_true, byteOfBits_bits]
    rw [bitsOf, List.flatMap_cons, List.foldl_append, hbyte, ← bitsOf, ih, List.append_assoc, List.singleton_append]

/-- The receive buffer at the end of the turn gap: whole bytes and a part-byte. -/
theorem exec_turnGapEnd {s : State} (hreq : s.takesRequest) (hrx : s.link.rx = { bytes := [], bits := [] }) (bytes : List Byte)
    {bits : List Bool} (hbits : bits.length < 8) :
    exec (.turnGapEnd (bitsOf bytes ++ bits)) s =
      .next ({ s with link := { s.link with rx := { bytes := bytes, bits := bits } } } : State).acceptPortion := by
  obtain ⟨hrun, hiface⟩ := hreq
  have hrec : (bitsOf bytes ++ bits).foldl RxBuffer.receive s.link.rx = { bytes := bytes, bits := bits } := by
    rw [hrx, List.foldl_append, receive_bitsOf, receive_partByte _ _ (by simpa using hbits)]
    rfl
  refine congrArg Host.Outcome.next ?_
  rw [State.whileRunning_of_running _ _ hrun, hiface]
  exact congrArg (fun rx => ({ s with link := { s.link with rx := rx } } : State).acceptPortion) hrec

/-- A portion that arrives whole. -/
theorem exec_turnGapEnd_whole {s : State} (hreq : s.takesRequest) (hrx : s.link.rx = { bytes := [], bits := [] }) (bytes : List Byte) :
    exec (.turnGapEnd (bitsOf bytes)) s =
      .next ({ s with link := { s.link with rx := { bytes := bytes, bits := [] } } } : State).acceptPortion := by
  simpa using exec_turnGapEnd hreq hrx bytes (bits := []) (by decide)

/-- The fields of a request portion are read back (R169, R192). -/
theorem portion_fields (priority : BitVec 3) (target : BitVec 5) (src : Node) {n : Nat} (hn : n ≤ 15) :
    portionTarget (priority ++ target) = target ∧ portionSource (src ++ BitVec.ofNat 4 n) = src ∧
      portionLength (src ++ BitVec.ofNat 4 n) = n := by
  refine ⟨BitVec.extractLsb'_append_eq_right, BitVec.extractLsb'_append_eq_left, ?_⟩
  rw [portionLength, BitVec.extractLsb'_append_eq_right, BitVec.toNat_ofNat, Nat.mod_eq_of_lt (by omega)]

/-- What the end of the turn gap makes of the bytes of a portion whose length and CRC are good (R172). -/
theorem State.acceptPortion_of_good {s : State} {b0 b1 code k : Byte} {params : List Byte}
    (hrx : s.link.rx = { bytes := b0 :: b1 :: code :: (params ++ [k]), bits := [] }) (hlen : params.length = portionLength b1)
    (hcrc : crc (b0 :: b1 :: code :: params) = k) :
    s.acceptPortion = match addressing s.link.nodeId (portionTarget b0) with
      | some dst => (serve dst (portionSource b1) code params s).deliver dst code
      | none => { s with link := { s.link with iface := .waitMark } } := by
  have hlast : (b0 :: b1 :: code :: (params ++ [k])).dropLast = b0 :: b1 :: code :: params :=
    List.dropLast_concat (l₁ := b0 :: b1 :: code :: params)
  have hget : (code :: (params ++ [k])).getLast? = some k := List.getLast?_concat (l := code :: params)
  unfold State.acceptPortion
  rw [hrx]
  dsimp only
  rw [if_neg (by simp; omega), if_neg (by rw [hlast, hget, hcrc]; exact not_not.mpr rfl)]
  cases addressing s.link.nodeId (portionTarget b0) with
  | some dst => exact congrArg (fun p => (serve dst (portionSource b1) code p s).deliver dst code) List.dropLast_concat
  | none => rfl

/-- A portion that has arrived whole is handed on to the request unit, or left in WAIT_MARK where it is for another target (R172). -/
theorem State.acceptPortion_of_portion {s : State} {priority : BitVec 3} {target : BitVec 5} {src : Node} {code : Byte} {params : List Byte}
    (hlen : params.length ≤ 15) (hrx : s.link.rx = { bytes := portionBytes priority target src code params, bits := [] }) :
    s.acceptPortion = match addressing s.link.nodeId target with
      | some dst => (serve dst src code params s).deliver dst code
      | none => { s with link := { s.link with iface := .waitMark } } := by
  obtain ⟨htarget, hsource, hlength⟩ := portion_fields priority target src hlen
  rw [State.acceptPortion_of_good hrx hlength.symm rfl, htarget, hsource]

theorem addressing_targetOf (node : Node) (dst : Addressing) : addressing node (targetOf node dst) = some dst := by
  cases dst with
  | group => rfl
  | direct =>
    have hne : node.setWidth 5 ≠ Config.groupTarget := by
      intro heq
      have hval := congrArg BitVec.toNat heq
      have hlt := node.isLt
      simp [Config.groupTarget] at hval
      omega
    exact (if_neg hne).trans (if_pos rfl)

theorem addressing_eq_none {node : Node} {target : BitVec 5} (hgroup : target ≠ 31) (hnode : target.toNat ≠ node.toNat) :
    addressing node target = none := by
  have hne : target ≠ node.setWidth 5 := fun heq => hnode (by
    rw [heq, BitVec.toNat_setWidth, Nat.mod_eq_of_lt (by have := node.isLt; omega)])
  exact (if_neg hgroup).trans (if_neg hne)

/-- No request carries more than 15 parameter bytes. -/
theorem requestParts_length {c : Instr} {dst : Addressing} {src : Node} {code : Byte} {params : List Byte}
    (h : requestParts c = some (dst, src, code, params)) : params.length ≤ 15 := by
  cases c <;> cases h <;> simp [bytes2, bytes5, keyBytes]

/-- Settles O28: the portion is received whole and handed on as the row's code and parameters. -/
theorem requestPortionsDecode : Obligations.RequestPortionsDecode := by
  intro c dst src code params priority s h hreq hrx
  rw [exec_turnGapEnd_whole hreq hrx, State.acceptPortion_of_portion (requestParts_length h) rfl, exec_of_takesRequest h (by exact hreq)]
  dsimp only
  rw [addressing_targetOf]

/-! ## Portions that are not a request (R172, R184, R188) -/

theorem codeLength_some {code : Byte} {n : Nat} (h : codeLength code = some n) : 1 ≤ code.toNat ∧ code.toNat ≤ 21 := by
  unfold codeLength at h
  split at h
  · cases h
  next hne =>
    have hpos : code.toNat ≠ 0 := fun heq => hne (BitVec.eq_of_toNat_eq heq)
    obtain ⟨hlt, _⟩ := List.getElem?_eq_some_iff.mp h
    simp only [List.length_cons, List.length_nil] at hlt
    omega

theorem codeLength_ofNat {code : Byte} {k : Nat} (h : code.toNat = k) : codeLength code = codeLength (BitVec.ofNat 8 k) := by
  rw [← h, BitVec.ofNat_toNat, BitVec.setWidth_eq]

/-- A code of R184 but PLACE, with the wrong number of parameter bytes. -/
theorem serve_of_wrongLength (dst : Addressing) (src : Node) {code : Byte} {n : Nat} (params : List Byte) (s : State)
    (hcode : codeLength code = some n) (h6 : code ≠ 0x06) (hlen : params.length ≠ n) :
    serve dst src code params s = wrongLength dst s := by
  unfold serve
  split
  case h_6 heq => exact absurd (BitVec.eq_of_toNat_eq heq) h6
  case h_22 =>
    have hrange := codeLength_some hcode
    simp only [imp_false] at *
    omega
  all_goals
    next heq =>
      split
      · exact absurd (Option.some.inj ((codeLength_ofNat heq).symm.trans hcode)) hlen
      · rfl

/-- A PLACE with the wrong number of parameter bytes; the busy check comes first for a group PLACE (R185, R188). -/
theorem serve_place_of_wrongLength (dst : Addressing) (src : Node) {code : Byte} (params : List Byte) (s : State) (hcode : code = 0x06)
    (hlen : params.length ≠ 8) :
    serve dst src code params s = match dst with
      | .direct => .ack s .badParam
      | .group => if s.busy then .silent s else .ack s .badParam := by
  have hnat : code.toNat = 6 := congrArg BitVec.toNat hcode
  unfold serve
  split
  case h_6 =>
    split
    · exact absurd rfl hlen
    · cases dst <;> rfl
  case h_22 =>
    simp only [imp_false] at *
    omega
  all_goals omega

/-- A code that R184 does not know. -/
theorem serve_of_unknown (dst : Addressing) (src : Node) {code : Byte} (params : List Byte) (s : State) (hcode : codeLength code = none) :
    serve dst src code params s = match dst with
      | .direct => .ack s .unknown
      | .group => .silent s := by
  unfold serve
  split
  case h_22 => cases dst <;> rfl
  all_goals
    next heq => exact nomatch (codeLength_ofNat heq).symm.trans hcode

/-- A request that R184 does not know, delivered: UNKNOWN or BAD_PARAM to a direct request, and to a group PLACE where the writer is not busy. -/
theorem deliver_of_unknown_or_wrongLength (dst : Addressing) (src : Node) {code : Byte} {params : List Byte} (s : State)
    (h : ∀ n, codeLength code = some n → params.length ≠ n) :
    (serve dst src code params s).deliver dst code = match dst with
      | .direct => s.ackTail code (if codeLength code = none then .unknown else .badParam)
      | .group => if code = 0x06 ∧ s.releaseQueue = [] then s.placeRefused .group .badParam else s.unanswered := by
  cases hcode : codeLength code with
  | none =>
    have h6 : code ≠ 0x06 := by rintro rfl; exact nomatch hcode
    rw [serve_of_unknown dst src params s hcode]
    cases dst with
    | direct => rfl
    | group => simp only [h6, false_and, if_false]; rfl
  | some n =>
    by_cases h6 : code = 0x06
    · rw [serve_place_of_wrongLength dst src params s h6 (h 8 (h6 ▸ rfl))]
      subst h6
      cases dst with
      | direct => rfl
      | group => cases hq : s.releaseQueue <;> simp [State.busy, hq] <;> rfl
    · rw [serve_of_wrongLength dst src params s hcode h6 (h n hcode)]
      cases dst with
      | direct => rfl
      | group => simp only [h6, false_and, if_false]; rfl

/-- A part-byte or a wrong number of bytes (R172.1). -/
theorem State.acceptPortion_of_badLength {s : State} {bytes : List Byte} {bits : List Bool} (hrx : s.link.rx = { bytes := bytes, bits := bits })
    (h : bits ≠ [] ∨ ∀ b1 : Byte, bytes[1]? = some b1 → bytes.length ≠ 4 + (b1.extractLsb' 0 4).toNat) :
    s.acceptPortion = s.linkFailed .badLength := by
  unfold State.acceptPortion
  rw [hrx]
  match bytes, h with
  | [], _ => rfl
  | [_], _ => rfl
  | b0 :: b1 :: rest, h =>
    refine if_pos (h.imp id fun hlen => ?_)
    have hne := hlen b1 rfl
    simp only [List.length_cons] at hne
    unfold portionLength
    omega

/-- A CRC that differs (R172.2). -/
theorem State.acceptPortion_of_badCrc {s : State} {b0 b1 k : Byte} {more : List Byte}
    (hrx : s.link.rx = { bytes := b0 :: b1 :: more ++ [k], bits := [] }) (hlen : more.length = 1 + (b1.extractLsb' 0 4).toNat)
    (hcrc : crc (b0 :: b1 :: more) ≠ k) : s.acceptPortion = s.linkFailed .badCrc := by
  have hlast : (b0 :: b1 :: (more ++ [k])).dropLast = b0 :: b1 :: more := List.dropLast_concat (l₁ := b0 :: b1 :: more)
  have hlength : (more ++ [k]).length = 2 + portionLength b1 := by simp [portionLength, hlen]; omega
  unfold State.acceptPortion
  rw [hrx]
  dsimp only [List.cons_append]
  rw [if_neg (by simp [hlength]), if_pos (by rw [hlast, List.getLast?_concat]; simpa using hcrc)]
  rfl

/-- Settles O29: the checks at the end of the turn gap, and the codes and lengths that the request unit refuses. -/
theorem turnGapRejectsPortions : Obligations.TurnGapRejectsPortions := by
  refine ⟨fun s hreq hrx => ⟨fun bytes bits hbits hbad => ?_, fun b0 b1 k more hlen hcrc => ?_,
    fun priority target src code params hlen hgroup hnode => ?_⟩, fun priority src code params s t hreq hrx hlen hcode dst ht => ?_⟩
  · rw [exec_turnGapEnd hreq hrx bytes hbits, State.acceptPortion_of_badLength rfl hbad]
  · rw [exec_turnGapEnd_whole hreq hrx, State.acceptPortion_of_badCrc rfl hlen hcrc]
  · rw [exec_turnGapEnd_whole hreq hrx, State.acceptPortion_of_portion hlen rfl]
    dsimp only
    rw [addressing_eq_none hgroup hnode]
  · have hnode : t.link.nodeId = s.link.nodeId := ht ▸ rfl
    have hqueue : t.releaseQueue = s.releaseQueue := ht ▸ rfl
    have hrx' : t.link.rx = { bytes := portionBytes priority (targetOf s.link.nodeId dst) src code params, bits := [] } := ht ▸ rfl
    rw [exec_turnGapEnd_whole hreq hrx, ← ht, State.acceptPortion_of_portion hlen hrx', hnode, addressing_targetOf]
    have hdeliver := deliver_of_unknown_or_wrongLength dst src t hcode
    rw [hqueue] at hdeliver
    exact congrArg Host.Outcome.next hdeliver

end Sys2Proof.Machine

/-! Requests that touch no record and no bank: STATUS (O12), MASTER_OPEN (O13), MASTER_CLOSE and MASTER_STATE (O14), INDEX_READ and TITLE_SUMMARY
(O22), LISTING (O23), HALT and RESUME (O24), CALIBRATE (O25), SET_TRIM and SET_LAMP (O27). -/

namespace Sys2Proof.Machine

/-! ## Answers of a direct request -/

/-- A request of node 0 or of any authorised source, to a writer that is not busy, comes to its own checks; here they answer with an ACK. -/
theorem exec_ack {c : Instr} {s t : State} {code : Byte} {unit : State → Answer} {r : Result} (hreq : s.takesRequest)
    (hexec : exec c s = .next (s.request .direct code unit)) (hunit : unit s = .ack t r) : exec c s = .next (t.ackTail code r) := by
  rw [hexec, s.request_of_request .direct code unit hreq.1 hreq.2, hunit, Answer.deliver_ack_direct]

theorem exec_data {c : Instr} {s t : State} {code : Byte} {unit : State → Answer} {payload : List Byte} (hreq : s.takesRequest)
    (hexec : exec c s = .next (s.request .direct code unit)) (hunit : unit s = .data t payload) :
    exec c s = .next (t.dataTail code payload) := by
  rw [hexec, s.request_of_request .direct code unit hreq.1 hreq.2, hunit]
  rfl

/-- The own checks of a request whose source has the authority and whose writer is not busy. -/
theorem dispatch_of_authorised {auth exempt : Bool} {own : State → Answer} {s : State} {a : Answer} (hauth : auth = true)
    (hfree : s.releaseQueue = []) (hown : own s = a) : dispatch .direct auth exempt own s = a := by
  rw [hauth, dispatch_own exempt own s hfree, hown]

/-- STATUS and MASTER_STATE are answered during a long operation too (R187). -/
theorem dispatch_of_exempt {auth : Bool} {own : State → Answer} {s : State} {a : Answer} (hauth : auth = true) (hown : own s = a) :
    dispatch .direct auth true own s = a := by
  simp [dispatch, hauth, hown]

/-- The request of a slot byte that names no slot. -/
theorem slotOf?_of_lt {b : Byte} (h : 5 < b.toNat) : slotOf? b = none := dif_neg (by omega)

theorem slotOf?_of_eq {b : Byte} {sl : Slot} (h : b.toNat = sl.val) : slotOf? b = some sl := by
  rw [slotOf?, dif_pos (h ▸ sl.isLt)]
  exact congrArg some (Fin.ext h)

/-! ## STATUS (R190) -/

/-- Settles O12: the answers of STATUS, and the tables of codes. -/
theorem statusReportsTheWriter : Obligations.StatusReportsTheWriter := by
  refine ⟨fun src clear s hreq => ⟨fun hclear => ?_, fun h0 h1 => ?_, ?_⟩, rfl, rfl, rfl, rfl, rfl, rfl, rfl, rfl, rfl, rfl, rfl⟩
  · have hauth : (decide (clear ≠ 1) || fromSupervisor src) = true := by
      rcases hclear with rfl | ⟨rfl, rfl⟩ <;> rfl
    have hown : ownStatus clear s = { Answer.data s s.statusPayload with clearing := decide (clear = 1) } :=
      if_pos (hclear.imp id And.left)
    refine congrArg Host.Outcome.next ((s.request_of_request .direct 0x01 _ hreq.1 hreq.2).trans ?_)
    rw [show unitStatus .direct src clear s = _ from dispatch_of_exempt hauth hown]
    rfl
  · have hauth : (decide (clear ≠ 1) || fromSupervisor src) = true := by rw [decide_eq_true h1]; rfl
    have hown : ownStatus clear s = .ack s .badParam := if_neg (not_or.mpr ⟨h0, h1⟩)
    exact exec_ack hreq rfl (dispatch_of_exempt hauth hown)
  · exact congrArg Host.Outcome.next (s.request_of_request .group 0x01 _ hreq.1 hreq.2)

/-! ## MASTER_OPEN (R9, R10) -/

theorem formatOf?_code (f : Format) : formatOf? f.code = some f := by cases f <;> rfl

theorem formatOf?_of_ne {b : Byte} (h : ∀ f : Format, b ≠ f.code) : formatOf? b = none := by
  have h1 : b ≠ 1 := h .g1
  have h2 : b ≠ 2 := h .g2
  have h3 : b ≠ 3 := h .g3
  rw [formatOf?, if_neg h1, if_neg h2, if_neg h3]

theorem mem_allSlots (sl : Slot) : sl ∈ allSlots := by
  revert sl; decide

theorem State.overlapsOpen_iff (s : State) (sl : Slot) (low high : Account) :
    s.overlapsOpen sl low high = true ↔ ∃ o, o ≠ sl ∧ (s.master o).state = .opened ∧
      ∃ g ∈ (s.master o).fields, low.toNat ≤ g.accountHigh.toNat ∧ g.accountLow.toNat ≤ high.toNat := by
  have hfields : ∀ o, ((s.master o).fields.map (fun f => decide (low.toNat ≤ f.accountHigh.toNat ∧ f.accountLow.toNat ≤ high.toNat))).getD false = true ↔
      ∃ g ∈ (s.master o).fields, low.toNat ≤ g.accountHigh.toNat ∧ g.accountLow.toNat ≤ high.toNat := fun o => by
    cases (s.master o).fields <;> simp
  simp only [State.overlapsOpen, List.any_eq_true, mem_allSlots, true_and, Bool.and_eq_true, decide_eq_true_eq, hfields, and_assoc]

/-- MASTER_OPEN of a LOADED slot in a format that a format byte names: the range, and the ranges of the OPEN masters (R9.4, R9.5, R10). -/
theorem ownMasterOpen_of_format {slot format : Byte} {sl : Slot} {f : Format} (hslot : slotOf? slot = some sl) (hformat : formatOf? format = some f)
    (label : Half) (low high : Account) (s : State) (hstate : (s.master sl).state = .loaded) :
    ownMasterOpen slot format label low high s =
      if high.toNat < low.toNat then .ack s .badParam
      else if s.overlapsOpen sl low high = true then .ack s .outOfRange
      else .ack (s.setMaster sl (openedMaster f label low high)) .ok := by
  simp only [ownMasterOpen, hslot, hformat, hstate, reduceCtorEq, if_false, ne_eq, not_true]

theorem ownMasterOpen_of_noFormat {slot format : Byte} {sl : Slot} (hslot : slotOf? slot = some sl) (hformat : formatOf? format = none)
    (label : Half) (low high : Account) (s : State) (hstate : (s.master sl).state = .loaded) :
    ownMasterOpen slot format label low high s = .ack s .badParam := by
  simp only [ownMasterOpen, hslot, hformat, hstate, reduceCtorEq, if_false, ne_eq, not_true]

/-- Settles O13: the checks of MASTER_OPEN in their order. -/
theorem masterOpenMakesTheMaster : Obligations.MasterOpenMakesTheMaster := by
  intro slot format label low high s hreq hfree
  have hack : ∀ {t r}, ownMasterOpen slot format label low high s = .ack t r →
      exec (.masterOpen .direct 0 slot format label low high) s = .next (t.ackTail 0x02 r) := fun hown =>
    exec_ack hreq rfl (dispatch_of_authorised rfl hfree hown)
  refine ⟨fun hslot => hack ?_, fun sl hslot => ?_⟩
  · simp [ownMasterOpen, slotOf?_of_lt hslot]
  have hsl := slotOf?_of_eq hslot
  refine ⟨fun hst => hack ?_, fun hfailed hst => hack ?_, fun hst => ⟨fun hbad => hack ?_, fun f hformat hrange => ?_⟩⟩
  · simp [ownMasterOpen, hsl, hst]
  · simp [ownMasterOpen, hsl, hfailed, hst]
  · rcases hbad with hformat | hrange
    · exact ownMasterOpen_of_noFormat hsl (formatOf?_of_ne hformat) label low high s hst
    · cases hf : formatOf? format with
      | none => exact ownMasterOpen_of_noFormat hsl hf label low high s hst
      | some f => rw [ownMasterOpen_of_format hsl hf label low high s hst, if_pos hrange]
  · have hown := ownMasterOpen_of_format hsl (hformat ▸ formatOf?_code f) label low high s hst
    rw [if_neg (Nat.not_lt.mpr hrange)] at hown
    refine ⟨fun hover => hack ?_, fun hapart => hack ?_⟩
    · rw [hown, if_pos ((s.overlapsOpen_iff sl low high).mpr hover)]
    · rw [hown, if_neg]
      · rfl
      · intro hover
        obtain ⟨o, hne, hopen, g, hg, hlow, hhigh⟩ := (s.overlapsOpen_iff sl low high).mp hover
        rcases hapart o hne hopen g hg with hlt | hlt
        · omega
        · omega

/-! ## The settle test as one change of the master (R12) -/

theorem State.setMaster_self (s : State) (sl : Slot) : s.setMaster sl (s.master sl) = s := by
  have h : s.masters.set sl s.masters[sl] = s.masters := Vector.set_getElem_self _
  exact congrArg (fun ms => { s with masters := ms }) h

theorem State.setMaster_setMaster (s : State) (sl : Slot) (m m' : Master) : (s.setMaster sl m).setMaster sl m' = s.setMaster sl m' := by
  have h : (s.masters.set sl m).set sl m' = s.masters.set sl m' := Vector.set_set ..
  exact congrArg (fun ms => { s with masters := ms }) h

theorem State.mapMaster_mapMaster (s : State) (sl : Slot) (f g : Master → Master) :
    (s.mapMaster sl f).mapMaster sl g = s.setMaster sl (g (f (s.master sl))) := by
  rw [State.mapMaster, State.mapMaster_master_same, State.mapMaster, State.setMaster_setMaster]

/-- The settled condition is one of the records alone (R12). -/
theorem State.settledCondition_eq (s : State) (sl : Slot) :
    s.settledCondition sl = decide (∀ r ∈ s.dir.keyTable, r.slot = sl → r.state = .exposed ∨ r.state = .withdrawn) := by
  rw [Bool.eq_iff_iff]
  simp [State.settledCondition, State.recordsOf, imp_iff_not_or]

theorem State.settleTest_eq (s : State) (sl : Slot) :
    s.settleTest sl = s.setMaster sl { s.master sl with
      state := if (s.master sl).state = .closing ∧ s.settledCondition sl = true then .settled else (s.master sl).state } := by
  unfold State.settleTest
  split
  · rfl
  · exact (s.setMaster_self sl).symm

/-! ## MASTER_CLOSE and MASTER_STATE (R11, R12, R15) -/

/-- The close of an OPEN master with the settle test of the same event. -/
theorem State.close_settleTest (s : State) (sl : Slot) :
    (s.mapMaster sl (fun m => { m with state := .closing })).settleTest sl = s.setMaster sl { s.master sl with
      state := if ∀ r ∈ s.dir.keyTable, r.slot = sl → r.state = .exposed ∨ r.state = .withdrawn then .settled else .closing } := by
  rw [State.settleTest_eq, State.mapMaster_master_same, State.mapMaster, State.setMaster_setMaster, State.settledCondition_eq]
  exact congrArg (fun st => s.setMaster sl { s.master sl with state := st }) (if_congr ((and_iff_right rfl).trans decide_eq_true_iff) rfl rfl)

/-- Settles O14. -/
theorem masterCloseAndStateAnswer : Obligations.MasterCloseAndStateAnswer := by
  refine ⟨fun slot s hreq hfree => ?_, fun src slot s hreq => ?_⟩
  · have hack : ∀ {t r}, ownMasterClose slot s = .ack t r → exec (.masterClose .direct 0 slot) s = .next (t.ackTail 0x03 r) := fun hown =>
      exec_ack hreq rfl (dispatch_of_authorised rfl hfree hown)
    refine ⟨fun hslot => hack ?_, fun sl hslot => ?_⟩
    · simp [ownMasterClose, slotOf?_of_lt hslot]
    have hsl := slotOf?_of_eq hslot
    refine ⟨fun hst => hack ?_, fun hfailed hst => hack ?_, fun hst => hack ?_⟩
    · simp [ownMasterClose, hsl, hst]
    · simp [ownMasterClose, hsl, hfailed, hst]
    · simp only [ownMasterClose, hsl, hst, reduceCtorEq, if_false, ne_eq, not_true, State.close_settleTest]
      rfl
  · refine ⟨fun hslot => ?_, fun sl hslot => ?_⟩
    · exact exec_ack hreq rfl (dispatch_of_exempt rfl (by simp [ownMasterState, slotOf?_of_lt hslot]))
    · have hcount : ∀ st, (s.recordsOf sl).countP (fun r => decide (r.state = st)) =
          s.dir.keyTable.countP (fun r => decide (r.slot = sl ∧ r.state = st)) := fun st => by
        rw [State.recordsOf, List.countP_filter]
        exact List.countP_congr (by simp [and_comm])
      have hown : ownMasterState slot s = .data s (s.masterStatePayload sl) := by simp only [ownMasterState, slotOf?_of_eq hslot]
      rw [exec_data hreq rfl (dispatch_of_exempt (auth := true) rfl hown), State.masterStatePayload]
      simp only [hcount]
      rfl

/-! ## INDEX_READ, TITLE_SUMMARY and LISTING (R152, R154, R159) -/

theorem MasterState.listable_iff (m : MasterState) : m.listable = true ↔ m.live = true ∨ m = .finished := by cases m <;> decide

theorem MasterState.not_listable {m : MasterState} (h : m = .empty ∨ m = .loaded ∨ m = .spent ∨ m = .releasing) :
    m ≠ .failed ∧ m.listable = false ∧ m.readable = false := by
  rcases h with rfl | rfl | rfl | rfl <;> decide

/-- Where a slot's list of records is read at a place. -/
theorem State.indexEntryBytes_indexList (s : State) (sl : Slot) (n : Nat) :
    indexEntryBytes (s.indexList sl)[n]? = match (s.recordsOf sl)[n]? with
      | some r => bytes5 r.key.account ++ [r.key.cycle, r.key.page, BitVec.ofNat 8 r.cell, r.state.mark.code]
      | none => List.replicate 9 0 := by
  rw [State.indexList, List.getElem?_map]
  cases (s.recordsOf sl)[n]? <;> rfl

theorem RecState.mark_eq_current (st : RecState) : st.mark = .current ↔ st = .exposed := by cases st <;> decide

theorem RecState.mark_eq_withdrawn (st : RecState) : st.mark = .withdrawn ↔ st = .withdrawn := by cases st <;> decide

theorem State.current_indexList (s : State) (sl : Slot) :
    (s.indexList sl).filter (fun e => decide (e.mark = .current)) =
      ((s.recordsOf sl).filter (fun r => decide (r.state = .exposed))).map Record.indexEntry := by
  rw [State.indexList, List.filter_map]
  exact congrArg _ (List.filter_congr fun r _ => decide_eq_decide.mpr r.state.mark_eq_current)

theorem State.withdrawn_indexList (s : State) (sl : Slot) :
    (s.indexList sl).countP (fun e => decide (e.mark = .withdrawn)) = (s.recordsOf sl).countP (fun r => decide (r.state = .withdrawn)) := by
  rw [State.indexList, List.countP_map]
  exact List.countP_congr fun r _ => decide_eq_true_iff.trans (r.state.mark_eq_withdrawn.trans decide_eq_true_iff.symm)

/-- The key of an entry of the list, or the zero key. -/
theorem keyBytes_getD (o : Option Record) :
    keyBytes (((o.map Record.indexEntry).map (·.key)).getD zeroKey) = (o.map (fun r => keyBytes r.key)).getD (List.replicate 7 0) := by
  cases o <;> rfl

/-- Settles O22. -/
theorem indexAndTitleAreRead : Obligations.IndexAndTitleAreRead := by
  intro src slot page s hreq hfree
  have hindexAck : ∀ {t r}, ownIndexRead slot page s = .ack t r → exec (.indexRead .direct src slot page) s = .next (t.ackTail 0x0D r) :=
    fun hown => exec_ack hreq rfl (dispatch_of_authorised rfl hfree hown)
  have hindexData : ∀ {t l}, ownIndexRead slot page s = .data t l → exec (.indexRead .direct src slot page) s = .next (t.dataTail 0x0D l) :=
    fun hown => exec_data hreq rfl (dispatch_of_authorised rfl hfree hown)
  have htitleAck : ∀ {t r}, ownTitleSummary slot s = .ack t r → exec (.titleSummary .direct src slot) s = .next (t.ackTail 0x0F r) :=
    fun hown => exec_ack hreq rfl (dispatch_of_authorised rfl hfree hown)
  have htitleData : ∀ {t l}, ownTitleSummary slot s = .data t l → exec (.titleSummary .direct src slot) s = .next (t.dataTail 0x0F l) :=
    fun hown => exec_data hreq rfl (dispatch_of_authorised rfl hfree hown)
  refine ⟨fun hslot => ⟨hindexAck ?_, htitleAck ?_⟩, fun sl hslot => ?_⟩
  · simp [ownIndexRead, slotOf?_of_lt hslot]
  · simp [ownTitleSummary, slotOf?_of_lt hslot]
  have hsl := slotOf?_of_eq hslot
  refine ⟨fun hst => ?_, fun hst => htitleAck ?_, fun hst entry hentry => ?_, fun hst current hcurrent => ?_⟩
  · obtain ⟨hfailed, hlist, hread⟩ := MasterState.not_listable hst
    exact ⟨hindexAck (by simp [ownIndexRead, hsl, hread]), htitleAck (by simp [ownTitleSummary, hsl, hfailed, hlist])⟩
  · simp [ownTitleSummary, hsl, hst]
  · have hread : (s.master sl).state.readable = true := by
      rw [← or_assoc] at hst
      exact Bool.or_eq_true_iff.mpr (hst.imp (MasterState.listable_iff _).mpr decide_eq_true)
    have hbytes : ∀ n, indexEntryBytes (s.indexList sl)[n]? = entry n := fun n => (s.indexEntryBytes_indexList sl n).trans (hentry n).symm
    have hown : ownIndexRead slot page s = .data s (s.indexReadPayload sl page) := by simp [ownIndexRead, hsl, hread]
    rw [hindexData hown, State.indexReadPayload]
    simp only [hbytes]
    simp only [State.indexList, List.length_map]
    rfl
  · have hlist := (MasterState.listable_iff _).mpr hst
    have hfailed : (s.master sl).state ≠ .failed := by
      intro heq; rw [heq] at hlist; exact nomatch hlist
    have hown : ownTitleSummary slot s = .data s (s.titleSummaryPayload sl) := by simp [ownTitleSummary, hsl, hfailed, hlist]
    rw [htitleData hown, State.titleSummaryPayload]
    simp only [State.current_indexList, State.withdrawn_indexList, ← hcurrent, List.head?_map, List.getLast?_map, List.length_map,
      keyBytes_getD]
    rfl

/-- Settles O23. -/
theorem listingIsQueued : Obligations.ListingIsQueued := by
  intro src slot s hreq hfree
  have hack : ∀ {t r}, ownListing slot s = .ack t r → exec (.listing .direct src slot) s = .next (t.ackTail 0x0E r) :=
    fun hown => exec_ack hreq rfl (dispatch_of_authorised rfl hfree hown)
  refine ⟨fun hslot => hack ?_, fun sl hslot => ?_⟩
  · simp [ownListing, slotOf?_of_lt hslot]
  have hsl := slotOf?_of_eq hslot
  refine ⟨fun hst => hack ?_, fun hst => hack ?_, fun hst => ?_⟩
  · simp [ownListing, hsl, hst]
  · obtain ⟨hfailed, hlist, -⟩ := MasterState.not_listable hst
    simp [ownListing, hsl, hfailed, hlist]
  · have hlist := (MasterState.listable_iff _).mpr hst
    have hfailed : (s.master sl).state ≠ .failed := by
      intro heq; rw [heq] at hlist; exact nomatch hlist
    refine ⟨fun hplace => hack ?_, fun hplace => ⟨_, hack ?_, State.thenLists_beginListing _ hreq.1⟩⟩
    · simp [ownListing, hsl, hfailed, hlist, hplace]
    · simp [ownListing, hsl, hfailed, hlist, hplace]

/-! ## HALT, RESUME, CALIBRATE, SET_TRIM and SET_LAMP -/

/-- Settles O24. -/
theorem haltAndResumeMoveThePath : Obligations.HaltAndResumeMoveThePath := by
  refine ⟨fun s hreq hfree => ?_, fun s hreq hfree => ⟨fun hpath => ?_, fun hpath => ?_⟩⟩
  · have hack : exec (.halt .direct 0) s = .next (s.haltPath.ackTail 0x10 .ok) :=
      exec_ack hreq rfl (dispatch_of_authorised (own := fun s => .ack s.haltPath .ok) rfl hfree rfl)
    rw [hack]
    refine ⟨fun hpath => ?_, fun hpath => ?_, fun hpath => ?_⟩
    · simp [State.haltPath, hpath]
    · rcases hpath with hpath | hpath <;> simp [State.haltPath, hpath]
    · rcases hpath with hpath | hpath <;> simp [State.haltPath, hpath]
  · exact ⟨_, exec_ack hreq rfl (dispatch_of_authorised rfl hfree (if_pos hpath)), State.thenTakes_takeJob _ hreq.1⟩
  · refine exec_ack hreq rfl (dispatch_of_authorised rfl hfree (if_neg ?_))
    rcases hpath with hpath | hpath | hpath <;> simp [hpath]

/-- Settles O25. -/
theorem calibrateStartsOrWaits : Obligations.CalibrateStartsOrWaits := by
  intro flag s hreq hfree
  have hack : ∀ {t r}, ownCalibrate flag s = .ack t r → exec (.calibrate .direct 0 flag) s = .next (t.ackTail 0x12 r) :=
    fun hown => exec_ack hreq rfl (dispatch_of_authorised rfl hfree hown)
  refine ⟨fun h0 h1 => hack (if_pos (not_or.mpr ⟨h0, h1⟩)), fun hflag => ?_⟩
  have hown : ownCalibrate flag s = if s.dose.calibration ≠ .none then .ack s .busy
      else if s.seq.path = .exposing then .ack { s with dose := { s.dose with calibration := .pending (decide (flag = 1)) } } .ok
      else .ack { s with dose := s.dose.startGate (decide (flag = 1)) } .ok := if_neg (not_not.mpr hflag)
  refine ⟨fun hcal => hack ?_, fun hcal hpath => hack ?_, fun hcal hpath => hack ?_⟩
  · rw [hown, if_pos hcal]
  · rw [hown, if_neg (not_not.mpr hcal), if_pos hpath]
  · rw [hown, if_neg (not_not.mpr hcal), if_neg hpath]
    rfl

/-- Settles O27. -/
theorem setTrimAndSetLampWrite : Obligations.SetTrimAndSetLampWrite := by
  intro slot value duty s hreq hfree
  have hack : ∀ {t r}, ownSetTrim slot value s = .ack t r → exec (.setTrim .direct 0 slot value) s = .next (t.ackTail 0x14 r) :=
    fun hown => exec_ack hreq rfl (dispatch_of_authorised rfl hfree hown)
  have hlamp : exec (.setLamp .direct 0 duty) s = .next ((s.setLamp duty).ackTail 0x15 .ok) :=
    exec_ack hreq rfl (dispatch_of_authorised (own := fun s => .ack (s.setLamp duty) .ok) rfl hfree rfl)
  have hown : ∀ {sl : Slot}, slot.toNat = sl.val → value ≠ 0 → ownSetTrim slot value s = if (s.master sl).state = .failed then .ack s .failedMaster
      else .ack { s with dose := { s.dose with trims := s.dose.trims.set sl value } } .ok := fun hslot hvalue => by
    rw [ownSetTrim, slotOf?_of_eq hslot]
    exact if_neg hvalue
  refine ⟨fun hbad => hack ?_, fun sl hslot hvalue => ⟨fun hst => hack ?_, fun hst => hack ?_⟩, fun hopen => ?_, fun hpath hgate => ?_⟩
  · unfold ownSetTrim
    rcases hbad with hslot | rfl
    · rw [slotOf?_of_lt hslot]
    · cases slotOf? slot <;> rfl
  · rw [hown hslot hvalue, if_pos hst]
  · rw [hown hslot hvalue, if_neg hst]
  · rw [hlamp, State.setLamp, if_pos hopen]
  · rw [hlamp, State.setLamp, if_neg (by simp [hpath, hgate])]

end Sys2Proof.Machine

/-! The rules that the requests on records use: the key table and the records of a key, the covering master and its lowest FREE cell, and a
change of a record with its cell, its master's generation and the settle test as one change of the master. -/

namespace Sys2Proof.Machine

/-! ## The key table and the records of a key (R28, R31, R35) -/

theorem KeyTable.file_eq_filedAt (r : Record) (table : List Record) : KeyTable.file r table = filedAt r table := by
  induction table with
  | nil => rfl
  | cons x rest ih =>
    rw [KeyTable.file, filedAt]
    by_cases h : keyOrder r.key < keyOrder x.key
    · have hle : ¬ keyOrder x.key ≤ keyOrder r.key := Nat.not_le.mpr h
      rw [if_pos h, List.takeWhile_cons, List.dropWhile_cons]
      simp [hle]
    · have hle : keyOrder x.key ≤ keyOrder r.key := Nat.not_lt.mp h
      rw [if_neg h, ih, filedAt, List.takeWhile_cons, List.dropWhile_cons]
      simp [hle]

theorem State.currentWith_none_iff (s : State) (k : Key) :
    s.currentWith k = none ↔ ∀ r ∈ s.dir.keyTable, r.key = k → r.state = .withdrawn := by
  have hnil : s.dir.keyTable.filter (fun r => decide (r.key = k ∧ r.state ≠ .withdrawn)) = [] ↔
      ∀ r ∈ s.dir.keyTable, r.key = k → r.state = .withdrawn := by
    simp [List.filter_eq_nil_iff]
  rw [← hnil]
  unfold State.currentWith
  split
  next h => exact iff_of_true rfl h
  next r h => exact iff_of_false nofun (by rw [h]; nofun)
  next several hnone _ =>
    refine ⟨fun h => absurd (List.getElem?_eq_none_iff.mp h) (Nat.not_le.mpr (Nat.mod_lt _ ?_)), fun h => absurd h hnone⟩
    exact List.length_pos_iff.mpr hnone

/-- The record chosen is one of those with the key that are not WITHDRAWN. -/
theorem State.currentWith_some {s : State} {k : Key} {r : Record} (h : s.currentWith k = some r) :
    r ∈ s.dir.keyTable ∧ r.key = k ∧ r.state ≠ .withdrawn := by
  have hmem : r ∈ s.dir.keyTable.filter (fun r => decide (r.key = k ∧ r.state ≠ .withdrawn)) := by
    unfold State.currentWith at h
    split at h
    · cases h
    next x hx => rw [hx]; exact List.mem_singleton.mpr (Option.some.inj h).symm
    · exact List.mem_of_getElem? h
  simpa using hmem

/-! ## The covering master and its lowest FREE cell (R31, R56) -/

theorem MasterFields.covers_iff (f : MasterFields) (a : Account) :
    f.covers a = true ↔ f.accountLow.toNat ≤ a.toNat ∧ a.toNat ≤ f.accountHigh.toNat := decide_eq_true_iff

theorem State.slotCovers_iff (s : State) (sl : Slot) (a : Account) :
    s.slotCovers sl a = true ↔ ∃ f ∈ (s.master sl).fields, f.accountLow.toNat ≤ a.toNat ∧ a.toNat ≤ f.accountHigh.toNat := by
  unfold State.slotCovers
  cases (s.master sl).fields with
  | none => simp
  | some f => simp [MasterFields.covers_iff]

theorem State.openCovering_of_coveredByNone {s : State} {a : Account} (h : s.coveredByNone a) : s.openCovering a = none := by
  refine List.find?_eq_none.mpr fun o _ => ?_
  rw [Bool.and_eq_true, decide_eq_true_iff, s.slotCovers_iff]
  rintro ⟨hopen, f, hf, hrange⟩
  exact h o hopen f hf hrange

theorem State.openCovering_of_coveredOnlyBy {s : State} {a : Account} {sl : Slot} {f : MasterFields} (h : s.coveredOnlyBy a sl f) :
    s.openCovering a = some sl := by
  obtain ⟨hopen, hfields, hlow, hhigh, honly⟩ := h
  have hsl : (decide ((s.master sl).state = .opened) && s.slotCovers sl a) = true := by
    rw [Bool.and_eq_true, decide_eq_true_iff, s.slotCovers_iff]
    exact ⟨hopen, f, hfields, hlow, hhigh⟩
  cases hfind : s.openCovering a with
  | none => exact absurd hsl (List.find?_eq_none.mp hfind sl (mem_allSlots sl))
  | some o =>
    have ho := List.find?_some hfind
    rw [Bool.and_eq_true, decide_eq_true_iff, s.slotCovers_iff] at ho
    rw [honly o ho.1 ho.2]

theorem State.lowestFree_of_firstFree {s : State} {sl : Slot} {f : MasterFields} {cell : Nat} (hfields : (s.master sl).fields = some f)
    (h : f.firstFree cell) : s.lowestFree sl = some cell := by
  obtain ⟨hfree, hlower⟩ := h
  obtain ⟨hlt, hcell⟩ := List.getElem?_eq_some_iff.mp hfree
  rw [State.lowestFree, hfields, Option.bind_some, MasterFields.lowestFree, List.findIdx?_eq_some_iff_getElem]
  refine ⟨hlt, decide_eq_true hcell, fun j hj => ?_⟩
  have hne := hlower j hj
  rw [List.getElem?_eq_getElem (by omega)] at hne
  simpa using hne

theorem State.lowestFree_of_full {s : State} {sl : Slot} {f : MasterFields} (hfields : (s.master sl).fields = some f)
    (h : ∀ c ∈ f.cells, c ≠ .free) : s.lowestFree sl = none := by
  rw [State.lowestFree, hfields, Option.bind_some, MasterFields.lowestFree, List.findIdx?_eq_none_iff]
  exact fun c hc => decide_eq_false (h c hc)

/-! ## A change of a master's records as one change of the master (R12, R55, R149) -/

theorem MasterState.mapMoves_eq (m : MasterState) : m.mapMoves = !decide (m = .failed ∨ m = .releasing) := by cases m <;> rfl

/-- A cell marked and the generation advanced. -/
theorem State.markCell_advance (s : State) (sl : Slot) (cell : Nat) (c : CellState) :
    (s.markCell sl cell c).advance sl = s.setMaster sl ((s.master sl).afterChange (fun m => m.set cell c) false) := by
  unfold State.markCell State.advance
  by_cases h : (s.master sl).state = .failed ∨ (s.master sl).state = .releasing
  · rw [MasterState.mapMoves_eq, decide_eq_true h]
    simp [State.mapMaster, Master.afterChange, h]
  · rw [MasterState.mapMoves_eq, decide_eq_false h]
    simp only [Bool.not_false, if_true, State.mapMaster_mapMaster]
    simp [Master.afterChange, h, Master.mapFields]

theorem State.advance_eq (s : State) (sl : Slot) : s.advance sl = s.setMaster sl ((s.master sl).afterChange (fun m => m) false) := by
  simp [State.advance, State.mapMaster, Master.afterChange]

/-- The settle test after a change of the master's records. -/
theorem State.settleTest_afterChange (s : State) (sl : Slot) (cells : List CellState → List CellState) :
    (s.setMaster sl ((s.master sl).afterChange cells false)).settleTest sl =
      s.setMaster sl ((s.master sl).afterChange cells (s.settledCondition sl)) := by
  rw [State.settleTest_eq, State.setMaster_master_same, State.setMaster_setMaster]
  simp [Master.afterChange]
  rfl

/-- A cell marked, the generation advanced and the settle test made. -/
theorem State.markCell_advance_settleTest (s : State) (sl : Slot) (cell : Nat) (c : CellState) :
    ((s.markCell sl cell c).advance sl).settleTest sl =
      s.setMaster sl ((s.master sl).afterChange (fun m => m.set cell c) (s.settledCondition sl)) := by
  rw [State.markCell_advance, State.settleTest_afterChange]

theorem State.advance_settleTest (s : State) (sl : Slot) :
    (s.advance sl).settleTest sl = s.setMaster sl ((s.master sl).afterChange (fun m => m) (s.settledCondition sl)) := by
  rw [State.advance_eq, State.settleTest_afterChange]

/-! ## The settled condition where one record changes (R12) -/

theorem State.settledCondition_mapRecord {s : State} {sl : Slot} {e : Entry} {f : Record → Record}
    (hstate : ∀ r ∈ s.dir.keyTable, r.entry = e → (f r).state = .exposed ∨ (f r).state = .withdrawn) :
    (s.mapRecord e f).settledCondition sl = s.othersSettled sl e := by
  rw [State.settledCondition_eq, State.othersSettled]
  refine decide_eq_decide.mpr ⟨fun h x hx hsl hne => ?_, fun h y hy hsl => ?_⟩
  · exact h x (List.mem_map.mpr ⟨x, hx, if_neg hne⟩) hsl
  · obtain ⟨x, hx, rfl⟩ := List.mem_map.mp hy
    by_cases he : x.entry = e
    · rw [if_pos he]
      exact hstate x hx he
    · rw [if_neg he] at hsl ⊢
      exact h x hx hsl he

theorem State.settledCondition_drop (s : State) (sl : Slot) (e : Entry) :
    (s.dropEntry e).settledCondition sl = s.othersSettled sl e := by
  rw [State.settledCondition_eq, State.othersSettled]
  refine decide_eq_decide.mpr ⟨fun h x hx hsl hne => h x ((KeyTable.mem_drop ..).mpr ⟨hx, hne⟩) hsl, fun h x hx hsl => ?_⟩
  obtain ⟨hx, hne⟩ := (KeyTable.mem_drop ..).mp hx
  exact h x hx hsl hne

/-! ## A record deleted (R26) -/

theorem State.deleteRecord_some (s : State) (r : Record) (c : CellState) :
    s.deleteRecord r (some c) = s.afterDeletion r (fun m => m.set r.cell c) := by
  rw [State.deleteRecord]
  rw [State.markCell_advance_settleTest, State.settledCondition_drop]
  rfl

theorem State.deleteRecord_none (s : State) (r : Record) : s.deleteRecord r none = s.afterDeletion r (fun m => m) := by
  rw [State.deleteRecord]
  rw [State.advance_settleTest, State.settledCondition_drop]
  rfl

end Sys2Proof.Machine

/-! The requests on records: PLACE (O16), LOOKUP (O17), FETCH (O18), REKEY (O19), SET_CLASS and REPLACE (O20); and the release deletion (O10). -/

namespace Sys2Proof.Machine

/-! ## PLACE (R31, R32) -/

theorem classOf?_of_eq {b : Byte} {c : DoseClass} (h : b.toNat = c.val) : classOf? b = some c := by
  rw [classOf?, dif_pos (h ▸ c.isLt)]
  exact congrArg some (Fin.ext h)

theorem classOf?_of_lt {b : Byte} (h : 7 < b.toNat) : classOf? b = none := dif_neg (by omega)

theorem classOf?_of_le {b : Byte} (h : b.toNat ≤ 7) : ∃ c, classOf? b = some c := ⟨_, dif_pos (Nat.lt_succ_of_le h)⟩

theorem keyValid_of_ne {k : Key} (hcycle : k.cycle ≠ 0) (hpage : k.page ≠ 0) : keyValid k = true := decide_eq_true ⟨hcycle, hpage⟩

theorem keyValid_of_zero {k : Key} (h : k.cycle = 0 ∨ k.page = 0) : keyValid k = false :=
  decide_eq_false fun hne => h.elim hne.1 hne.2

/-- A PLACE to a writer that is not busy comes to its own checks, however it is addressed. -/
theorem exec_place {dst : Addressing} {src : Node} {k : Key} {cls : Byte} {s : State} (hreq : s.takesRequest) (hfree : s.releaseQueue = []) :
    exec (.place dst src k cls) s = .next ((ownPlace dst src k cls s).deliver dst 0x06) := by
  have hunit : unitPlace dst src k cls s = ownPlace dst src k cls s := by
    cases dst with
    | direct => exact dispatch_own false _ s hfree
    | group => simp [unitPlace, State.busy, hfree]
  exact congrArg Host.Outcome.next ((s.request_of_request dst 0x06 _ hreq.1 hreq.2).trans (congrArg (·.deliver dst 0x06) hunit))

theorem ownPlace_of_bad {k : Key} {cls : Byte} (dst : Addressing) (src : Node) (s : State) (h : k.cycle = 0 ∨ k.page = 0 ∨ 7 < cls.toNat) :
    ownPlace dst src k cls s = .ack s .badParam := by
  unfold ownPlace
  rw [← or_assoc] at h
  rcases h with hkey | hcls
  · rw [keyValid_of_zero hkey]
    cases classOf? cls <;> rfl
  · rw [classOf?_of_lt hcls]

/-- The record that holds the key (R31.2). -/
theorem ownPlace_of_current {k : Key} {cls : Byte} {c : DoseClass} {r : Record} (dst : Addressing) (src : Node) {s : State}
    (hcls : classOf? cls = some c) (hkey : keyValid k = true) (hcur : s.currentWith k = some r) :
    ownPlace dst src k cls s = { Answer.data s (s.imageWithHandle r) with reply := .data .duplicate (s.imageWithHandle r) } := by
  unfold ownPlace
  rw [hcls, hkey]
  simp only [hcur]

/-- The checks after BAD_PARAM, where no record but WITHDRAWN ones holds the key (R31.3 to R31.5). -/
theorem ownPlace_of_new {k : Key} {cls : Byte} {c : DoseClass} (dst : Addressing) (src : Node) {s : State} (hcls : classOf? cls = some c)
    (hkey : keyValid k = true) (hnew : s.currentWith k = none) :
    (s.openCovering k.account = none → ownPlace dst src k cls s = if dst = .direct then .ack s .outOfRange else .silent s) ∧
    ∀ sl, s.openCovering k.account = some sl →
      (s.lowestFree sl = none → ownPlace dst src k cls s = .ack s .masterFull) ∧
      ∀ cell, s.lowestFree sl = some cell →
        (s.dir.freeList = [] → ownPlace dst src k cls s = .ack s .directoryFull) ∧
        ∀ e rest, s.dir.freeList = e :: rest → ownPlace dst src k cls s =
          { Answer.data (s.placeRecord (placedRecord e k c sl cell src) rest)
              ([countByte sl, countByte cell] ++ bytes2 (handleOf e s.dir.stamps[e])) with
            created := some (handleOf e s.dir.stamps[e]) } := by
  unfold ownPlace
  rw [hcls, hkey]
  simp only [hnew]
  refine ⟨fun hcover => ?_, fun sl hcover => ⟨fun hcell => ?_, fun cell hcell => ⟨fun hlist => ?_, fun e rest hlist => ?_⟩⟩⟩
  · rw [hcover]; cases dst <;> rfl
  · rw [hcover]; simp only [hcell]
  · rw [hcover]; simp only [hcell, hlist]
  · rw [hcover]; simp only [hcell, hlist]

/-- The record of a PLACE, its cell and its master's generation. -/
theorem State.placeRecord_eq (s : State) (r : Record) (rest : List Entry) :
    s.placeRecord r rest = { s with
      dir := { s.dir with freeList := rest, keyTable := filedAt r s.dir.keyTable }
      masters := s.masters.set r.slot ((s.master r.slot).afterChange (fun m => m.set r.cell .held) false) } := by
  rw [State.placeRecord, State.markCell_advance, KeyTable.file_eq_filedAt]
  rfl

theorem Master.afterChange_of_opened {m : Master} {f : MasterFields} (hstate : m.state = .opened) (hfields : m.fields = some f)
    (cells : List CellState → List CellState) (settles : Bool) :
    m.afterChange cells settles = { m with generation := m.generation + 1, fields := some { f with cells := cells f.cells } } := by
  simp [Master.afterChange, hstate, hfields]

/-- The record that a PLACE creates in an OPEN master (R32). -/
theorem State.placeRecord_of_opened {s : State} {sl : Slot} {f : MasterFields} (hopen : (s.master sl).state = .opened)
    (hfields : (s.master sl).fields = some f) (e : Entry) (k : Key) (c : DoseClass) (cell : Nat) (src : Node) (rest : List Entry) :
    s.placeRecord (placedRecord e k c sl cell src) rest = { s with
      dir := { s.dir with freeList := rest, keyTable := filedAt (placedRecord e k c sl cell src) s.dir.keyTable }
      masters := s.masters.set sl { s.master sl with
        generation := (s.master sl).generation + 1
        fields := some { f with cells := f.cells.set cell .held } } } := by
  have hchange := Master.afterChange_of_opened hopen hfields (fun m => m.set cell .held) false
  exact (s.placeRecord_eq _ rest).trans (congrArg (fun m => { s with
    dir := { s.dir with freeList := rest, keyTable := filedAt (placedRecord e k c sl cell src) s.dir.keyTable }
    masters := s.masters.set sl m }) hchange)

/-- Settles O16. -/
theorem placeCreatesTheRecord : Obligations.PlaceCreatesTheRecord := by
  refine ⟨fun dst src k cls s hreq hfree => ⟨fun hbad => ?_, fun hcycle hpage hle => ⟨fun hdup => ?_, fun hnew => ?_⟩⟩,
    fun dst src k cls c sl f cell e rest s hreq hfree hcls hcycle hpage hnew hcover hcell hlist => ?_⟩
  · rw [exec_place hreq hfree, ownPlace_of_bad dst src s hbad]
    rfl
  · obtain ⟨c, hc⟩ := classOf?_of_le hle
    cases hcur : s.currentWith k with
    | none =>
      obtain ⟨r, hr, hkey, hstate⟩ := hdup
      exact absurd ((s.currentWith_none_iff k).mp hcur r hr hkey) hstate
    | some r =>
      obtain ⟨hr, hkey, hstate⟩ := State.currentWith_some hcur
      refine ⟨r, hr, hkey, hstate, ?_⟩
      rw [exec_place hreq hfree, ownPlace_of_current dst src hc (keyValid_of_ne hcycle hpage) hcur]
      rfl
  · obtain ⟨c, hc⟩ := classOf?_of_le hle
    obtain ⟨hnone, hsome⟩ := ownPlace_of_new dst src hc (keyValid_of_ne hcycle hpage) ((s.currentWith_none_iff k).mpr hnew)
    refine ⟨fun hcover => ?_, fun sl f hcover => ?_⟩
    · rw [exec_place hreq hfree, hnone (State.openCovering_of_coveredByNone hcover)]
      cases dst <;> rfl
    · obtain ⟨hfull, hroom⟩ := hsome sl (State.openCovering_of_coveredOnlyBy hcover)
      obtain ⟨-, hfields, -⟩ := hcover
      refine ⟨fun hcells => ?_, fun cell hcell hlist => ?_⟩
      · rw [exec_place hreq hfree, hfull (State.lowestFree_of_full hfields hcells)]
        rfl
      · rw [exec_place hreq hfree, (hroom cell (State.lowestFree_of_firstFree hfields hcell)).1 hlist]
        rfl
  · obtain ⟨-, hsome⟩ := ownPlace_of_new dst src (classOf?_of_eq hcls) (keyValid_of_ne hcycle hpage) ((s.currentWith_none_iff k).mpr hnew)
    obtain ⟨-, hroom⟩ := hsome sl (State.openCovering_of_coveredOnlyBy hcover)
    obtain ⟨hopen, hfields, -⟩ := hcover
    rw [exec_place hreq hfree, (hroom cell (State.lowestFree_of_firstFree hfields hcell)).2 e rest hlist, 
      State.placeRecord_of_opened hopen hfields]
    rfl

/-! ## LOOKUP and FETCH (R23, R35 to R37) -/

theorem State.recordsWith_eq_nil (s : State) (k : Key) : s.recordsWith k = [] ↔ ∀ r ∈ s.dir.keyTable, r.key ≠ k := by
  simp [State.recordsWith, List.filter_eq_nil_iff]

/-- LOOKUP finds nothing where no record has the key (R35). -/
theorem State.chosenWith_of_none {s : State} {k : Key} (h : ∀ r ∈ s.dir.keyTable, r.key ≠ k) : s.chosenWith k = none := by
  rw [State.chosenWith, (s.currentWith_none_iff k).mpr fun r hr hk => absurd hk (h r hr), (s.recordsWith_eq_nil k).mpr h]
  rfl

/-- The record LOOKUP chooses where some record has the key (R35). -/
theorem State.chosenWith_of_some {s : State} {k : Key} (h : ∃ r ∈ s.dir.keyTable, r.key = k) :
    ∃ r ∈ s.dir.keyTable, r.key = k ∧ s.chosenWith k = some r ∧
      (r.state = .withdrawn → (∀ x ∈ s.dir.keyTable, x.key = k → x.state = .withdrawn) ∧ (s.recordsWith k).getLast? = some r) := by
  cases hcur : s.currentWith k with
  | some r =>
    obtain ⟨hr, hkey, hstate⟩ := State.currentWith_some hcur
    exact ⟨r, hr, hkey, by rw [State.chosenWith, hcur]; rfl, fun hw => absurd hw hstate⟩
  | none =>
    have hne : s.recordsWith k ≠ [] := fun hnil => by
      obtain ⟨r, hr, hkey⟩ := h
      exact (s.recordsWith_eq_nil k).mp hnil r hr hkey
    have hlast := List.getLast?_eq_some_getLast hne
    have hmem : (s.recordsWith k).getLast hne ∈ s.dir.keyTable.filter (fun r => decide (r.key = k)) := List.getLast_mem hne
    obtain ⟨hr, hkey⟩ := List.mem_filter.mp hmem
    exact ⟨_, hr, of_decide_eq_true hkey, by rw [State.chosenWith, hcur, hlast]; rfl,
      fun _ => ⟨(s.currentWith_none_iff k).mp hcur, hlast⟩⟩

/-- A group LOOKUP to a writer that is not busy comes to its own check. -/
theorem exec_groupLookup {src : Node} {k : Key} {s : State} {a : Answer} (hreq : s.takesRequest) (hunit : unitGroupLookup src k s = a) :
    exec (.groupLookup src k) s = .next (a.deliver .group 0x07) :=
  congrArg Host.Outcome.next ((s.request_of_request .group 0x07 _ hreq.1 hreq.2).trans (congrArg (·.deliver .group 0x07) hunit))

theorem State.recordsWith_length (s : State) (k : Key) :
    (s.recordsWith k).length = s.dir.keyTable.countP (fun x => decide (x.key = k)) := List.countP_eq_length_filter.symm

/-- Settles O17. -/
theorem lookupChoosesTheRecord : Obligations.LookupChoosesTheRecord := by
  intro src k s hreq hfree
  have hbusy : s.busy = false := by simp [State.busy, hfree]
  refine ⟨fun hnone => ⟨?_, ?_⟩, fun hsome => ?_⟩
  · have hown : ownLookup k s = .ack s .notFound := by simp only [ownLookup, State.chosenWith_of_none hnone]
    exact exec_ack hreq rfl (dispatch_of_authorised (auth := true) rfl hfree hown)
  · have hunit : unitGroupLookup src k s = .silent s := by
      simp only [unitGroupLookup, hbusy, State.chosenWith_of_none hnone, Bool.false_eq_true, if_false]
    rw [exec_groupLookup hreq hunit, Answer.deliver_silent]
  · obtain ⟨r, hr, hkey, hchosen, hwithdrawn⟩ := State.chosenWith_of_some hsome
    refine ⟨r, hr, hkey, hwithdrawn, ?_, ?_⟩
    · have hown : ownLookup k s = .data s (s.imageWithHandle r ++ [countByte (min 255 (s.recordsWith k).length)]) := by
        simp only [ownLookup, hchosen]
      rw [exec_data hreq rfl (dispatch_of_authorised (auth := true) rfl hfree hown), State.recordsWith_length]
      rfl
    · have hunit : unitGroupLookup src k s = .roll s (bit (decide (1 < (s.recordsWith k).length)) ++ r.state.code) := by
        simp only [unitGroupLookup, hbusy, hchosen, Bool.false_eq_true, if_false]
      rw [exec_groupLookup hreq hunit, State.recordsWith_length]
      rfl

theorem classSource_eq (c : DoseClass) (src : Node) :
    (0 : BitVec 1) ++ (BitVec.ofFin c : BitVec 3) ++ src = BitVec.ofNat 4 c.val ++ src := by
  have h : (0 : BitVec 1) ++ (BitVec.ofFin c : BitVec 3) = BitVec.ofNat 4 c.val := by
    revert c; decide
  rw [h]

theorem recordImage_eq (r : Record) : recordImage r =
    bytes5 r.key.account ++ [r.key.cycle, r.key.page, BitVec.ofNat 8 r.slot.val, BitVec.ofNat 8 r.cell,
      r.state.code ++ bit r.retirePending ++ bit (decide (r.clamped = some true)) ++ bit r.openTime.isSome ++ bankCode r.bank,
      BitVec.ofNat 4 r.cls.val ++ r.source] ++ bytes2 (BitVec.ofNat 16 (r.openTime.getD 0)) := by
  have hclamped : r.clamped.getD false = decide (r.clamped = some true) := by
    cases r.clamped with
    | none => rfl
    | some b => cases b <;> rfl
  rw [recordImage, recordFlags, classSource, hclamped, classSource_eq]
  rfl

theorem State.resolve_of_filter {s : State} {h : Handle} {r : Record}
    (hrec : s.dir.keyTable.filter (fun x => decide (x.entry.val = (h.extractLsb' 6 10).toNat)) = [r])
    (hstamp : s.dir.stamps[r.entry] = h.extractLsb' 0 6) : s.resolve h = some r := by
  have hentry : ∀ x : Record, (x.entry = handleEntry h ↔ x.entry.val = (h.extractLsb' 6 10).toNat) := fun x => Fin.ext_iff
  have hmem : r ∈ s.dir.keyTable.filter (fun x => decide (x.entry.val = (h.extractLsb' 6 10).toNat)) := hrec ▸ List.mem_singleton_self r
  have hr : r.entry = handleEntry h := (hentry r).mpr (by simpa using (List.mem_filter.mp hmem).2)
  have hfind : s.dir.keyTable.find? (fun x => decide (x.entry = handleEntry h)) = some r := by
    rw [← List.head?_filter]
    simp only [hentry, hrec, List.head?_cons]
  simp only [hr] at hstamp
  exact (if_pos hstamp).trans hfind

theorem State.resolve_of_missing {s : State} {h : Handle} (hmiss : s.dir.stamps[(h.extractLsb' 6 10).toFin] ≠ h.extractLsb' 0 6 ∨
    ∀ x ∈ s.dir.keyTable, x.entry.val ≠ (h.extractLsb' 6 10).toNat) : s.resolve h = none := by
  unfold State.resolve
  split
  next hstamp =>
    refine List.find?_eq_none.mpr fun x hx => ?_
    have hentry := hmiss.resolve_left (not_not.mpr hstamp) x hx
    rw [decide_eq_true_iff]
    exact fun heq => hentry (Fin.ext_iff.mp heq)
  · rfl

/-- Settles O18. -/
theorem fetchGivesTheRecordImage : Obligations.FetchGivesTheRecordImage := by
  intro src h s hreq hfree
  refine ⟨fun r hrec hstamp => ?_, fun hmiss => ?_⟩
  · have hown : ownFetch h s = .data s (recordImage r) := by simp only [ownFetch, State.resolve_of_filter hrec hstamp]
    rw [exec_data hreq rfl (dispatch_of_authorised (auth := true) rfl hfree hown), recordImage_eq]
  · have hown : ownFetch h s = .ack s .notFound := by simp only [ownFetch, State.resolve_of_missing hmiss]
    exact exec_ack hreq rfl (dispatch_of_authorised (auth := true) rfl hfree hown)

/-! ## REKEY (R38 to R40) -/

theorem RecState.changeable_iff (st : RecState) : st.changeable = true ↔ st = .awaiting ∨ st = .filling ∨ st = .loaded := by
  cases st <;> decide

theorem RecState.not_changeable {st : RecState} (ha : st ≠ .awaiting) (hf : st ≠ .filling) (hl : st ≠ .loaded) : st.changeable = false :=
  Bool.eq_false_iff.mpr fun h => (st.changeable_iff.mp h).elim ha fun h => h.elim hf hl

/-- The authority over the record that a handle names (R30). -/
theorem State.recordAuthority_of_resolve {s : State} {src : Node} {h : Handle} {r : Record} (hr : s.resolve h = some r)
    (hsrc : src = 0 ∨ src = r.source) : s.recordAuthority src h = true := by
  rw [State.recordAuthority, hr]
  exact decide_eq_true hsrc

theorem State.recordAuthority_of_none {s : State} {h : Handle} (src : Node) (hr : s.resolve h = none) : s.recordAuthority src h = true := by
  rw [State.recordAuthority, hr]

theorem State.keyTaken_iff (s : State) (e : Entry) (k : Key) :
    s.keyTaken e k = true ↔ ∃ x ∈ s.dir.keyTable, x.entry ≠ e ∧ x.key = k ∧ x.state ≠ .withdrawn := by
  simp [State.keyTaken]

theorem State.keyTaken_of_withdrawn {s : State} {e : Entry} {k : Key}
    (h : ∀ x ∈ s.dir.keyTable, x.entry ≠ e → x.key = k → x.state = .withdrawn) : s.keyTaken e k = false := by
  rw [Bool.eq_false_iff, ne_eq, State.keyTaken_iff]
  rintro ⟨x, hx, hne, hkey, hstate⟩
  exact hstate (h x hx hne hkey)

/-- The checks of REKEY up to the record's state, passed: the key, the range, and the cell of another master (R38.5 to R38.8). -/
theorem ownRekey_of_changeable {h : Handle} {k : Key} {r : Record} {s : State} (hkey : keyValid k = true) (hr : s.resolve h = some r)
    (hmaster : (s.master r.slot).state ≠ .failed) (hrec : r.state.changeable = true) :
    (s.keyTaken r.entry k = true → ownRekey h k s = .ack s .duplicate) ∧
    (s.keyTaken r.entry k = false →
      (s.slotCovers r.slot k.account = true → ownRekey h k s = .data (s.rekeyWithin r k) [countByte r.slot, countByte r.cell]) ∧
      (s.slotCovers r.slot k.account = false →
        (s.openCovering k.account = none → ownRekey h k s = .ack s .outOfRange) ∧
        ∀ sl, s.openCovering k.account = some sl →
          (s.lowestFree sl = none → ownRekey h k s = .ack s .masterFull) ∧
          ∀ cell, s.lowestFree sl = some cell → ownRekey h k s = .data (s.rekeyMove r k sl cell) [countByte sl, countByte cell])) := by
  unfold ownRekey
  rw [hkey]
  simp only [hr, hmaster, hrec, Bool.true_eq_false, if_false]
  refine ⟨fun htaken => if_pos htaken, fun hfree => ?_⟩
  rw [if_neg (Bool.eq_false_iff.mp hfree)]
  refine ⟨fun hown => if_pos hown, fun hother => ?_⟩
  rw [if_neg (Bool.eq_false_iff.mp hother)]
  refine ⟨fun hcover => ?_, fun sl hcover => ⟨fun hcell => ?_, fun cell hcell => ?_⟩⟩
  · rw [hcover]
  · rw [hcover]; simp only [hcell]
  · rw [hcover]; simp only [hcell]

/-- A REKEY within the record's own master (R39). -/
theorem State.rekeyWithin_eq (s : State) (r : Record) (k : Key) :
    s.rekeyWithin r k = { s with
      dir := { s.dir with
        keyTable := if r.key = k then s.dir.keyTable
          else filedAt { r with key := k } (s.dir.keyTable.filter (fun x => decide (x.entry ≠ r.entry))) }
      masters := s.masters.set r.slot { s.master r.slot with generation := (s.master r.slot).generation + 1 } } := by
  unfold State.rekeyWithin
  split
  · rfl
  · rw [State.refile, KeyTable.file_eq_filedAt]
    rfl

/-! Changes of two masters do not disturb each other. -/

theorem State.mapMaster_comm (s : State) {sl o : Slot} (h : sl ≠ o) (f g : Master → Master) :
    (s.mapMaster sl f).mapMaster o g = (s.mapMaster o g).mapMaster sl f := by
  have hcomm : (s.masters.set sl (f (s.master sl))).set o (g (s.master o)) = (s.masters.set o (g (s.master o))).set sl (f (s.master sl)) :=
    Vector.set_comm _ _ fun heq => h (Fin.ext heq)
  rw [State.mapMaster, State.mapMaster_master_ne _ h.symm, State.mapMaster, State.mapMaster, State.mapMaster_master_ne _ h, State.mapMaster]
  exact congrArg (fun ms => { s with masters := ms }) hcomm

theorem State.advance_markCell_comm (s : State) {sl o : Slot} (h : sl ≠ o) (cell : Nat) (c : CellState) :
    (s.markCell o cell c).advance sl = (s.advance sl).markCell o cell c := by
  have hstate : (s.advance sl).master o = s.master o := s.mapMaster_master_ne h.symm _
  unfold State.markCell
  rw [hstate]
  split
  · exact s.mapMaster_comm h.symm _ _
  · rfl

theorem State.advance_comm (s : State) {sl o : Slot} (h : sl ≠ o) : (s.advance o).advance sl = (s.advance sl).advance o :=
  s.mapMaster_comm h.symm _ _

/-- A REKEY that moves the record to a cell of another master (R40). -/
theorem State.rekeyMove_eq (s : State) (r : Record) (k : Key) {sl : Slot} (cell : Nat) (hne : sl ≠ r.slot) :
    s.rekeyMove r k sl cell = { s with
      dir := { s.dir with
        keyTable := filedAt { r with key := k, slot := sl, cell := cell } (s.dir.keyTable.filter (fun x => decide (x.entry ≠ r.entry))) }
      masters := (s.masters.set sl ((s.master sl).afterChange (fun m => m.set cell .held) false)).set r.slot
        ((s.master r.slot).afterChange (fun m => m.set r.cell .free) (s.othersSettled r.slot r.entry)) } := by
  have hsettled : ∀ m, ((s.refile { r with key := k, slot := sl, cell := cell }).setMaster sl m).settledCondition r.slot =
      s.othersSettled r.slot r.entry := fun m => by
    rw [State.settledCondition_eq, State.othersSettled]
    refine decide_eq_decide.mpr ⟨fun h x hx hsl he => h x ((KeyTable.mem_file ..).mpr (.inr ((KeyTable.mem_drop ..).mpr ⟨hx, he⟩))) hsl,
      fun h x hx hsl => ?_⟩
    rcases (KeyTable.mem_file ..).mp hx with rfl | hx
    · exact absurd hsl hne
    · obtain ⟨hx, he⟩ := (KeyTable.mem_drop ..).mp hx
      exact h x hx hsl he
  rw [State.rekeyMove]
  rw [State.advance_comm _ hne, State.advance_markCell_comm _ hne, State.markCell_advance_settleTest, State.markCell_advance,
    State.setMaster_master_ne _ hne.symm, hsettled, State.refile, KeyTable.file_eq_filedAt]
  rfl

/-- Settles O19. -/
theorem rekeyChangesKeyOrMaster : Obligations.RekeyChangesKeyOrMaster := by
  have hack : ∀ {src h k s t r}, s.takesRequest → s.releaseQueue = [] → s.recordAuthority src h = true → ownRekey h k s = .ack t r →
      exec (.rekey .direct src h k) s = .next (t.ackTail 0x09 r) := fun hreq hfree hauth hown =>
    exec_ack hreq rfl (dispatch_of_authorised hauth hfree hown)
  have hdata : ∀ {src h k s t l}, s.takesRequest → s.releaseQueue = [] → s.recordAuthority src h = true → ownRekey h k s = .data t l →
      exec (.rekey .direct src h k) s = .next (t.dataTail 0x09 l) := fun hreq hfree hauth hown =>
    exec_data hreq rfl (dispatch_of_authorised hauth hfree hown)
  refine ⟨fun src h k s hreq hfree => ⟨fun hr => hack hreq hfree (State.recordAuthority_of_none src hr) ?_, fun r hr hsrc => ?_⟩,
    fun src h k r s hreq hfree hr hsrc hcycle hpage hmaster hrec hnew hout => ?_⟩
  · unfold ownRekey
    split_ifs with hvalid hzero hzero
    · rfl
    · exact absurd hvalid (by rw [keyValid_of_ne (fun hc => hzero (.inl hc)) (fun hp => hzero (.inr hp))]; nofun)
    · exact absurd (keyValid_of_zero hzero) hvalid
    · rw [hr]
  · have hauth := State.recordAuthority_of_resolve hr hsrc
    refine ⟨fun hzero => hack hreq hfree hauth (if_pos (keyValid_of_zero hzero)), fun hcycle hpage => ⟨fun hst => ?_, fun hst => ⟨fun ha hf hl => ?_,
      fun hrec => ⟨fun hdup => ?_, fun hnew f hf hlow hhigh => ?_⟩⟩⟩⟩
    · refine hack hreq hfree hauth ?_
      simp only [ownRekey, keyValid_of_ne hcycle hpage, hr, hst, Bool.true_eq_false, if_false, if_true]
    · refine hack hreq hfree hauth ?_
      simp only [ownRekey, keyValid_of_ne hcycle hpage, hr, hst, RecState.not_changeable ha hf hl, Bool.true_eq_false, if_false, if_true]
    · obtain ⟨htaken, -⟩ := ownRekey_of_changeable (keyValid_of_ne hcycle hpage) hr hst ((RecState.changeable_iff _).mpr hrec)
      exact hack hreq hfree hauth (htaken ((s.keyTaken_iff _ _).mpr hdup))
    · obtain ⟨-, hfresh⟩ := ownRekey_of_changeable (keyValid_of_ne hcycle hpage) hr hst ((RecState.changeable_iff _).mpr hrec)
      obtain ⟨hwithin, -⟩ := hfresh (State.keyTaken_of_withdrawn hnew)
      rw [hdata hreq hfree hauth (hwithin ((s.slotCovers_iff _ _).mpr ⟨f, hf, hlow, hhigh⟩)), State.rekeyWithin_eq]
      rfl
  · have hauth := State.recordAuthority_of_resolve hr hsrc
    obtain ⟨-, hfresh⟩ := ownRekey_of_changeable (keyValid_of_ne hcycle hpage) hr hmaster ((RecState.changeable_iff _).mpr hrec)
    obtain ⟨-, hmove⟩ := hfresh (State.keyTaken_of_withdrawn hnew)
    have hother : s.slotCovers r.slot k.account = false := Bool.eq_false_iff.mpr fun hcov => by
      obtain ⟨f, hf, hrange⟩ := (s.slotCovers_iff _ _).mp hcov
      exact hout f hf hrange
    obtain ⟨hnone, hsome⟩ := hmove hother
    refine ⟨fun hcover => hack hreq hfree hauth (hnone (State.openCovering_of_coveredByNone hcover)), fun sl f hcover => ?_⟩
    obtain ⟨hfull, hroom⟩ := hsome sl (State.openCovering_of_coveredOnlyBy hcover)
    obtain ⟨-, hfields, hlow, hhigh, -⟩ := hcover
    have hne : sl ≠ r.slot := by
      rintro rfl
      exact hout f hfields ⟨hlow, hhigh⟩
    refine ⟨fun hcells => hack hreq hfree hauth (hfull (State.lowestFree_of_full hfields hcells)), fun cell hcell => ?_⟩
    rw [hdata hreq hfree hauth (hroom cell (State.lowestFree_of_firstFree hfields hcell)), State.rekeyMove_eq s r k cell hne]
    rfl

/-! ## SET_CLASS and REPLACE (R41, R46) -/

/-- The checks of SET_CLASS, in their order. -/
theorem setClass_clauses (src : Node) (h : Handle) (cls : Byte) (s : State) (hreq : s.takesRequest) (hfree : s.releaseQueue = []) :
    (s.resolve h = none → exec (.setClass .direct src h cls) s = .next (s.ackTail 0x0A (if 7 < cls.toNat then .badParam else .notFound))) ∧
    ∀ r, s.resolve h = some r → src = 0 ∨ src = r.source →
      (7 < cls.toNat → exec (.setClass .direct src h cls) s = .next (s.ackTail 0x0A .badParam)) ∧
      ∀ c : DoseClass, cls.toNat = c.val →
        ((s.master r.slot).state = .failed → exec (.setClass .direct src h cls) s = .next (s.ackTail 0x0A .failedMaster)) ∧
        ((s.master r.slot).state ≠ .failed →
          (r.state ≠ .awaiting → r.state ≠ .filling → r.state ≠ .loaded →
            exec (.setClass .direct src h cls) s = .next (s.ackTail 0x0A .wrongState)) ∧
          (r.state = .awaiting ∨ r.state = .filling ∨ r.state = .loaded →
            exec (.setClass .direct src h cls) s =
              .next (({ s with dir := s.dirWith r.entry (fun x => { x with cls := c }) } : State).ackTail 0x0A .ok))) := by
  have hack : ∀ {t r}, s.recordAuthority src h = true → ownSetClass h cls s = .ack t r →
      exec (.setClass .direct src h cls) s = .next (t.ackTail 0x0A r) := fun hauth hown =>
    exec_ack hreq rfl (dispatch_of_authorised hauth hfree hown)
  refine ⟨fun hr => hack (State.recordAuthority_of_none src hr) ?_, fun r hr hsrc => ?_⟩
  · unfold ownSetClass
    split_ifs with hlt
    · rw [classOf?_of_lt hlt]
    · obtain ⟨c, hc⟩ := classOf?_of_le (Nat.not_lt.mp hlt)
      rw [hc]
      simp only [hr]
  · have hauth := State.recordAuthority_of_resolve hr hsrc
    refine ⟨fun hlt => hack hauth (by rw [ownSetClass, classOf?_of_lt hlt]), fun c hc => ?_⟩
    have hcls := classOf?_of_eq hc
    refine ⟨fun hst => hack hauth ?_, fun hst => ⟨fun ha hf hl => hack hauth ?_, fun hrec => hack hauth ?_⟩⟩
    · simp only [ownSetClass, hcls, hr, hst, if_true]
    · simp only [ownSetClass, hcls, hr, hst, RecState.not_changeable ha hf hl, if_false, if_true]
    · simp only [ownSetClass, hcls, hr, hst, (RecState.changeable_iff _).mpr hrec, Bool.true_eq_false, if_false]
      rfl

/-- A SPOILED record re-placed on a cell of its master (R46). -/
theorem State.replaceRecord_eq {s : State} {r : Record} {f : MasterFields} (cell : Nat)
    (hst : (s.master r.slot).state = .opened ∨ (s.master r.slot).state = .closing) (hfields : (s.master r.slot).fields = some f) :
    s.replaceRecord r cell = { s with
      dir := s.dirWith r.entry (fun x => { x with state := .awaiting, cell := cell, openTime := none, clamped := none })
      masters := s.masters.set r.slot { s.master r.slot with
        generation := (s.master r.slot).generation + 1
        fields := some { f with cells := f.cells.set cell .held } } } := by
  have hchange : (s.master r.slot).afterChange (fun m => m.set cell .held) false = { s.master r.slot with
      generation := (s.master r.slot).generation + 1
      fields := some { f with cells := f.cells.set cell .held } } := by
    rcases hst with hst | hst <;> simp [Master.afterChange, hst, hfields]
  rw [State.replaceRecord, State.markCell_advance]
  exact congrArg (fun m => { s with
    dir := s.dirWith r.entry (fun x => { x with state := .awaiting, cell := cell, openTime := none, clamped := none })
    masters := s.masters.set r.slot m }) hchange

/-- Settles O20. -/
theorem setClassAndReplaceChangeTheRecord : Obligations.SetClassAndReplaceChangeTheRecord := by
  refine ⟨setClass_clauses, fun src h s hreq hfree => ?_⟩
  have hack : ∀ {t r}, s.recordAuthority src h = true → ownReplace h s = .ack t r → exec (.replace .direct src h) s = .next (t.ackTail 0x0C r) :=
    fun hauth hown => exec_ack hreq rfl (dispatch_of_authorised hauth hfree hown)
  refine ⟨fun hr => hack (State.recordAuthority_of_none src hr) (by rw [ownReplace, hr]), fun r hr hsrc => ?_⟩
  have hauth := State.recordAuthority_of_resolve hr hsrc
  refine ⟨fun hst => hack hauth ?_, fun hst hbad => hack hauth ?_, fun hst hrec f hfields => ?_⟩
  · simp only [ownReplace, hr, hst, if_true]
  · simp only [ownReplace, hr, hst, hbad, if_false, if_true]
  · have hfailed : (s.master r.slot).state ≠ .failed := by rcases hst with hst | hst <;> rw [hst] <;> nofun
    have hgood : ¬ (r.state ≠ .spoiled ∨ ¬ ((s.master r.slot).state = .opened ∨ (s.master r.slot).state = .closing)) :=
      not_or.mpr ⟨not_not.mpr hrec, not_not.mpr hst⟩
    refine ⟨fun hcells => hack hauth ?_, fun cell hcell => ?_⟩
    · simp only [ownReplace, hr, hfailed, if_neg hgood, State.lowestFree_of_full hfields hcells, if_false]
    · have hown : ownReplace h s = .data (s.replaceRecord r cell) [countByte cell] := by
        simp only [ownReplace, hr, hfailed, if_neg hgood, State.lowestFree_of_firstFree hfields hcell, if_false]
      rw [exec_data hreq rfl (dispatch_of_authorised hauth hfree hown), State.replaceRecord_eq cell hst hfields]
      rfl

/-! ## The release deletion (R18, R19) -/

theorem State.listingRuns_of_place {s : State} {sl : Slot} (h : s.raster.place = .inProgress sl) : s.listingRuns sl = true := decide_eq_true h

theorem State.listingRuns_of_ne {s : State} {sl : Slot} (h : s.raster.place ≠ .inProgress sl) : s.listingRuns sl = false := decide_eq_false h

section
variable {s : State} {sl : Slot} {rest : List Slot} (hqueue : s.releaseQueue = sl :: rest)
include hqueue

theorem State.deletion_of_listing (h : s.listingRuns sl = true) : s.deleteNext = s ∧ s.endDeletion = s := by
  simp only [State.deleteNext, State.endDeletion, hqueue, h, if_true, and_self]

theorem State.deleteNext_of_more (h : s.listingRuns sl = false) {r r' : Record} {more : List Record} (hrec : s.recordsOf sl = r :: r' :: more) :
    s.deleteNext = s.dropEntry r.entry := by
  simp only [State.deleteNext, hqueue, h, hrec, Bool.false_eq_true, if_false]

theorem State.deletion_of_last (h : s.listingRuns sl = false) {r : Record} (hrec : s.recordsOf sl = [r]) :
    s.deleteNext = (s.dropEntry r.entry).endRelease sl rest ∧ s.endDeletion = (s.dropEntry r.entry).endRelease sl rest := by
  simp only [State.deleteNext, State.endDeletion, hqueue, h, hrec, Bool.false_eq_true, if_false, and_self]

theorem State.endDeletion_of_none (h : s.listingRuns sl = false) (hrec : s.recordsOf sl = []) : s.endDeletion = s.endRelease sl rest := by
  simp only [State.endDeletion, hqueue, h, hrec, Bool.false_eq_true, if_false]

end

/-- Settles O10: what a deletion command finds of the slot at the head of the queue. -/
theorem releaseDeletionRuns : Obligations.ReleaseDeletionRuns := by
  intro sl rest s hrun hqueue
  have hdelete : exec .releaseDeletion s = .next s.deleteNext := congrArg Host.Outcome.next (s.whileRunning_of_running _ hrun)
  have hend : exec .releaseEnd s = .next s.endDeletion := congrArg Host.Outcome.next (s.whileRunning_of_running _ hrun)
  refine ⟨fun hplace => ?_, fun hplace => ?_⟩
  · obtain ⟨hsame, hsame'⟩ := State.deletion_of_listing hqueue (State.listingRuns_of_place hplace)
    exact ⟨by rw [hdelete, hsame], by rw [hend, hsame']⟩
  · have hlisting := State.listingRuns_of_ne hplace
    refine ⟨fun r r' more hrec => ?_, fun r hrec c hc => ?_, fun hrec => ?_⟩
    · rw [hdelete, State.deleteNext_of_more hqueue hlisting hrec]
      rfl
    · obtain ⟨hlast, hlast'⟩ := State.deletion_of_last hqueue hlisting hrec
      rcases hc with rfl | rfl
      · rw [hdelete, hlast]
        rfl
      · rw [hend, hlast']
        rfl
    · rw [hend, State.endDeletion_of_none hqueue hlisting hrec]
      rfl

end Sys2Proof.Machine

/-! The banks let go by a plate's removal, a release, a retirement and a rolled-back PLACE (R94, R98): O8, O15 and O21. -/

namespace Sys2Proof.Machine

/-! ## One bank let go -/

theorem State.letGo_bank_same (s : State) (id : BankId) : (s.letGo id).bank id = (s.bank id).letGo := by
  cases hstate : (s.bank id).state <;> simp [State.letGo, Bank.letGo, hstate]

theorem State.letGo_bank_ne (s : State) {id o : BankId} (h : o ≠ id) : (s.letGo id).bank o = s.bank o := by
  unfold State.letGo
  split <;> simp [h]

/-- A LOADED bank let go leaves the queue; another stands in it as before. -/
theorem State.letGo_queue (s : State) (id : BankId) :
    (s.letGo id).panel.queue = s.panel.queue.filter (fun o => !(decide (o = id) && decide ((s.bank id).state = .loaded))) := by
  unfold State.letGo
  split
  next h => simp [h]
  all_goals
    next h => simp [h]

/-- A bank let go where a condition holds. -/
def State.letGoIf (s : State) (c : Bool) (id : BankId) : State := if c then s.letGo id else s

theorem State.letGoIf_bank_same (s : State) (c : Bool) (id : BankId) : (s.letGoIf c id).bank id = if c = true then (s.bank id).letGo else s.bank id := by
  cases c
  · rfl
  · exact s.letGo_bank_same id

theorem State.letGoIf_bank_ne (s : State) (c : Bool) {id o : BankId} (h : o ≠ id) : (s.letGoIf c id).bank o = s.bank o := by
  cases c
  · rfl
  · exact s.letGo_bank_ne h

theorem State.letGoIf_queue (s : State) (c : Bool) (id : BankId) :
    (s.letGoIf c id).panel.queue = s.panel.queue.filter (fun o => !(decide (o = id) && (c && decide ((s.bank id).state = .loaded)))) := by
  cases c
  · simp [State.letGoIf]
  · simpa [State.letGoIf] using s.letGo_queue id

theorem State.letGoIf_lines (s : State) (c : Bool) (id : BankId) : (s.letGoIf c id).panel.lines = s.panel.lines := by
  cases c
  · rfl
  · exact s.letGo_lines id

/-! ## Both banks let go by one rule -/

/-- What both banks let go under one condition leave of the Panel Store (R94, R95, R98). -/
theorem State.banksLetGo_letGoIf (s : State) (hit : BankId → Bool) : s.banksLetGo ((s.letGoIf (hit .a) .a).letGoIf (hit .b) .b) hit := by
  have ha : ((s.letGoIf (hit .a) .a).bank .b) = s.bank .b := s.letGoIf_bank_ne _ (by decide)
  refine ⟨fun id => ?_, ?_, ?_⟩
  · cases id with
    | a => rw [State.letGoIf_bank_ne _ _ (by decide), State.letGoIf_bank_same]
    | b => rw [State.letGoIf_bank_same, ha]
  · rw [State.letGoIf_queue, State.letGoIf_queue, ha, List.filter_filter]
    refine List.filter_congr fun o _ => ?_
    cases o <;> simp
  · have hlines : ((s.letGoIf (hit .a) .a).letGoIf (hit .b) .b).panel.lines = s.panel.lines := by
      rw [State.letGoIf_lines, State.letGoIf_lines]
    exact (PanelStore.lines_eq_iff _ _).mp hlines

theorem State.banksLetGo_congr {s t u : State} {hit : BankId → Bool} (h : s.banksLetGo t hit) (hpanel : u.panel = t.panel) :
    s.banksLetGo u hit := by
  unfold State.banksLetGo State.bank at *
  rwa [hpanel]

/-- The slot of a bank depends on the bank, the job and the directory. -/
theorem State.bankSlot_congr {s t : State} {id : BankId} (hbank : t.bank id = s.bank id) (hseq : t.seq = s.seq) (hdir : t.dir = s.dir) :
    t.bankSlot id = s.bankSlot id := by
  have hresolve : t.resolve = s.resolve := funext fun h => by rw [State.resolve, State.resolve, hdir]
  have hslot : t.bindingSlot = s.bindingSlot := funext fun b => by
    cases b <;> simp only [State.bindingSlot, hresolve]
  rw [State.bankSlot, State.bankSlot, hbank, hseq, hslot]

theorem State.releaseBanksOf_eq (s : State) (sl : Slot) :
    s.releaseBanksOf sl = (s.letGoIf (decide (s.bankSlot .a = some sl)) .a).letGoIf (decide (s.bankSlot .b = some sl)) .b := by
  have hone : ∀ (t : State) id, t.releaseBankOf sl id = t.letGoIf (decide (t.bankSlot id = some sl)) id := fun t id => by
    simp [State.releaseBankOf, State.letGoIf]
  have hb : (s.releaseBankOf sl .a).bankSlot .b = s.bankSlot .b :=
    State.bankSlot_congr (by rw [hone, State.letGoIf_bank_ne _ _ (by decide)]) (by simp) (by simp)
  rw [State.releaseBanksOf, hone (s.releaseBankOf sl .a), hb, hone]

/-- The banks of a master let go (R6, R14, R17). -/
theorem State.banksLetGo_releaseBanksOf (s : State) (sl : Slot) :
    s.banksLetGo (s.releaseBanksOf sl) (fun id => decide (s.bankSlot id = some sl)) := by
  rw [State.releaseBanksOf_eq]
  exact s.banksLetGo_letGoIf fun id => decide (s.bankSlot id = some sl)

theorem State.releaseRecordBanks_eq (s : State) (h : Handle) :
    s.releaseRecordBanks h =
      (s.letGoIf (decide ((s.bank .a).binding = some (.record h))) .a).letGoIf (decide ((s.bank .b).binding = some (.record h))) .b := by
  have hone : ∀ (t : State) id, t.releaseRecordBank h id = t.letGoIf (decide ((t.bank id).binding = some (.record h))) id := fun t id => by
    simp [State.releaseRecordBank, State.letGoIf]
  rw [State.releaseRecordBanks, hone, hone, State.letGoIf_bank_ne _ _ (by decide)]

/-- The bank of a record let go (R33, R43). -/
theorem State.banksLetGo_releaseRecordBanks (s : State) (h : Handle) :
    s.banksLetGo (s.releaseRecordBanks h) (fun id => decide ((s.bank id).binding = some (.record h))) := by
  rw [State.releaseRecordBanks_eq]
  exact s.banksLetGo_letGoIf fun id => decide ((s.bank id).binding = some (.record h))

/-- Where no bank is hit the Panel Store stays. -/
theorem State.banksLetGo_of_panel {s t : State} (h : t.panel = s.panel) {hit : BankId → Bool} (hnone : ∀ id, hit id = false) :
    s.banksLetGo t hit := by
  refine ⟨fun id => by rw [hnone id, State.bank_congr h]; rfl, ?_, ?_⟩
  · simp [h, hnone]
  · rw [h]; exact ⟨rfl, rfl, rfl, rfl⟩

/-! ## A plate removed from a live master (R6) -/

theorem State.plateRemoved_of_live {s : State} {sl : Slot} (h : (s.master sl).state.live = true) :
    s.plateRemoved sl = (s.removeLivePlate sl).streamGo := by
  unfold State.plateRemoved
  cases hst : (s.master sl).state with
  | opened | closing | settled | indexing | indexed => rfl
  | _ => rw [hst] at h; exact nomatch h

/-- What fits the decoder is what the FIFO, the decoder and the direction hold. -/
theorem State.streamFits_congr {s t : State} (h : s.streamFits) (hdecoder : t.raster.decoder = s.raster.decoder)
    (hfifo : t.raster.fifo = s.raster.fifo) (hdirection : t.raster.direction = s.raster.direction) : t.streamFits := by
  unfold State.streamFits RasterPort.decoderFits at *
  rwa [hdecoder, hfifo, hdirection]

theorem State.removeLivePlate_dir (s : State) (sl : Slot) :
    (s.removeLivePlate sl).dir = { s.dir with keyTable := s.dir.keyTable.map (fun r =>
      if r.slot = sl then { r with state := .lost, bank := none, retirePending := false } else r) } := by
  have hdir : (s.releaseBanksOf sl).dir = s.dir := by simp
  change ((s.releaseBanksOf sl).loseRecords sl).dir = _
  rw [State.loseRecords, State.setKeyTable, hdir]

theorem State.removeLivePlate_masters (s : State) (sl : Slot) :
    (s.removeLivePlate sl).masters = s.masters.set sl
      { state := .failed, fields := (s.master sl).fields.map (fun f => { f with indexBindings := 0 }),
        generation := (s.master sl).generation, failure := some .plateRemoved } := by
  have hmasters : (s.releaseBanksOf sl).masters = s.masters := by simp
  change (((s.releaseBanksOf sl).loseRecords sl).failMaster sl .plateRemoved).masters = _
  rw [State.failMaster, State.mapMaster, State.setMaster, State.master, State.loseRecords_masters, hmasters]
  rfl

/-- Settles O8. -/
theorem plateRemovedFailsLiveMaster : Obligations.PlateRemovedFailsLiveMaster := by
  intro sl s hrun hplate hlive hfits
  let s1 := s.setPlate sl { raw := false, debounced := false, settling := false }
  let t := s1.removeLivePlate sl
  obtain ⟨-, hpins, hplates, hqueue, hraster, hseq, hmotion, hdose, hlink, hanswer⟩ : _ := s1.removeLivePlate_keeps sl
  obtain ⟨-, -, hsup0, -, -, -, hreports0, -⟩ : _ := s1.releaseBanksOf_keeps sl
  have hsup : t.sup = { s.sup with plt := true } := congrArg (fun u => { u with plt := true : Supervision }) hsup0
  have hmaster : ∀ o, t.master o = (s1.setMaster sl _).master o := fun o => congrArg (fun ms : Vector Master 6 => ms[o]) (s1.removeLivePlate_masters sl)
  refine ⟨t, t.streamGo, ?_, State.thenExamines_streamGo _ (by rw [hsup]; exact hrun) ?_, ?_, fun o ho => ?_, hplates,
    s1.removeLivePlate_dir sl, State.banksLetGo_congr (s1.banksLetGo_releaseBanksOf sl) rfl, hsup, congrArg (· ++ [sl]) hreports0, hraster, hseq, hmotion,
    hdose, hlink, hanswer, hpins, hqueue⟩
  · rw [exec_plateSettleExpiry_of_running sl s hrun, s.settlePlate_of_withdrawn sl hplate, State.plateRemoved_of_live (by exact hlive)]
  · exact State.streamFits_congr hfits (congrArg RasterPort.decoder hraster) (congrArg RasterPort.fifo hraster)
      (congrArg RasterPort.direction hraster)
  · rw [hmaster, State.setMaster_master_same]
    rfl
  · rw [hmaster, State.setMaster_master_ne _ ho]
    rfl

/-! ## RELEASING entered (R7, R16, R17) -/

theorem State.enterReleasing_dir (s : State) (sl : Slot) :
    (s.enterReleasing sl).dir = { s.dir with keyTable := s.dir.keyTable.map (fun r => if r.slot = sl then { r with bank := none } else r) } := by
  have hdir : (s.releaseBanksOf sl).dir = s.dir := by simp
  exact congrArg (fun d : Directory => { d with keyTable := s.dir.keyTable.map (fun r : Record => if r.slot = sl then { r with bank := none } else r) }) hdir

theorem State.enterReleasing_masters (s : State) (sl : Slot) :
    (s.enterReleasing sl).masters = s.masters.set sl { s.master sl with
      state := .releasing, fields := (s.master sl).fields.map (fun f => { f with indexBindings := 0 }) } := by
  have hmasters : (s.releaseBanksOf sl).masters = s.masters := by simp
  exact congrArg (fun ms : Vector Master 6 => ms.set sl { ms[sl] with
    state := .releasing, fields := ms[sl].fields.map (fun f => { f with indexBindings := 0 }) }) hmasters

theorem State.entersReleasing_enterReleasing (s : State) (sl : Slot) : s.entersReleasing (s.enterReleasing sl) sl := by
  have hqueue : (s.releaseBanksOf sl).releaseQueue = s.releaseQueue := by simp
  have hraster : (s.releaseBanksOf sl).raster = s.raster := by simp
  exact ⟨s.enterReleasing_masters sl, s.enterReleasing_dir sl, congrArg (· ++ [sl]) hqueue,
    congrArg (fun r : RasterPort => { r with place := if r.place = ListingPlace.queued sl then .empty else r.place }) hraster,
    State.banksLetGo_congr (s.banksLetGo_releaseBanksOf sl) rfl⟩

/-- What the release of a master touches. -/
theorem State.enterReleasing_eq (s : State) (sl : Slot) :
    s.enterReleasing sl = { s with
      masters := (s.enterReleasing sl).masters, dir := (s.enterReleasing sl).dir, releaseQueue := (s.enterReleasing sl).releaseQueue,
      raster := (s.enterReleasing sl).raster, panel := (s.enterReleasing sl).panel } := by
  obtain ⟨hpending, hpins, hsup, hplates, hreports, hseq, hmotion, hdose, hlink, hanswer⟩ := s.enterReleasing_keeps sl
  rw [← hpending, ← hpins, ← hsup, ← hplates, ← hreports, ← hseq, ← hmotion, ← hdose, ← hlink, ← hanswer]

theorem State.thenExamines_enterReleasing {s : State} (sl : Slot) (hrun : s.sup.phase = .running) (hfits : s.streamFits) :
    (s.enterReleasing sl).thenExamines (s.enterReleasing sl).streamGo := by
  have hraster : (s.releaseBanksOf sl).raster = s.raster := by simp
  have hdecoder : (s.releaseBanksOf sl).raster.decoder = s.raster.decoder := congrArg _ hraster
  have hfifo : (s.releaseBanksOf sl).raster.fifo = s.raster.fifo := congrArg _ hraster
  have hdirection : (s.releaseBanksOf sl).raster.direction = s.raster.direction := congrArg _ hraster
  have hsup : (s.enterReleasing sl).sup = s.sup := by simp
  exact State.thenExamines_streamGo _ (by rw [hsup]; exact hrun) (State.streamFits_congr hfits hdecoder hfifo hdirection)

theorem State.bankInUse_iff (s : State) (sl : Slot) (id : BankId) :
    s.bankInUse sl id = true ↔ ((s.bank id).state = .filling ∨ (s.bank id).state = .shown) ∧ s.bankSlot id = some sl := decide_eq_true_iff

theorem MasterState.not_releasable {m : MasterState} (h : m = .empty ∨ m = .loaded ∨ m = .spent ∨ m = .releasing) : m.releasable = false := by
  rcases h with rfl | rfl | rfl | rfl <;> rfl

theorem MasterState.releasable_of {m : MasterState} (h : m.live = true ∨ m = .finished ∨ m = .failed) : m.releasable = true := by
  rcases h with h | rfl | rfl
  · cases m with
    | opened | closing | settled | indexing | indexed => rfl
    | _ => exact nomatch h
  · rfl
  · rfl

/-- Settles O15. -/
theorem releaseIsEntered : Obligations.ReleaseIsEntered := by
  intro sl s hrun
  refine ⟨fun slot hreq hfree => ?_, fun hplate hfinished hfits => ?_⟩
  · have hack : ∀ {t r}, ownMasterRelease slot s = .ack t r → exec (.masterRelease .direct 0 slot) s = .next (t.ackTail 0x05 r) := fun hown =>
      exec_ack hreq rfl (dispatch_of_authorised rfl hfree hown)
    refine ⟨fun hslot => hack ?_, fun hslot => ?_⟩
    · simp [ownMasterRelease, slotOf?_of_lt hslot]
    have hsl := slotOf?_of_eq hslot
    refine ⟨fun hst => hack ?_, fun huse => hack ?_, fun hst hidle hfits => ?_⟩
    · simp [ownMasterRelease, hsl, MasterState.not_releasable hst]
    · obtain ⟨id, hid⟩ := huse
      have hbank : (s.bankInUse sl .a || s.bankInUse sl .b) = true := by
        rw [Bool.or_eq_true]
        cases id with
        | a => exact .inl ((s.bankInUse_iff sl .a).mpr hid)
        | b => exact .inr ((s.bankInUse_iff sl .b).mpr hid)
      simp only [ownMasterRelease, hsl, hbank, if_true]
      split <;> rfl
    · have hbank : ∀ id, s.bankInUse sl id = false := fun id => Bool.eq_false_iff.mpr fun h => by
        obtain ⟨hstate, hslot⟩ := (s.bankInUse_iff sl id).mp h
        exact hstate.elim (hidle id hslot).1 (hidle id hslot).2
      have hown : ownMasterRelease slot s = .ack (s.enterReleasing sl).streamGo .ok := by
        simp [ownMasterRelease, hsl, MasterState.releasable_of hst, hbank]
      exact ⟨s.enterReleasing sl, (s.enterReleasing sl).streamGo, hack hown, State.thenExamines_enterReleasing sl hrun hfits,
        s.entersReleasing_enterReleasing sl, s.enterReleasing_eq sl⟩
  · let s1 := s.setPlate sl { raw := false, debounced := false, settling := false }
    have hremoved : s1.plateRemoved sl = (s1.enterReleasing sl).streamGo := by
      have hst : (s1.master sl).state = .finished := hfinished
      simp only [State.plateRemoved, hst]
    refine ⟨s1.enterReleasing sl, (s1.enterReleasing sl).streamGo, ?_, State.thenExamines_enterReleasing sl hrun hfits, s1.entersReleasing_enterReleasing sl,
      s1.enterReleasing_eq sl⟩
    rw [exec_plateSettleExpiry_of_running sl s hrun, s.settlePlate_of_withdrawn sl hplate, hremoved]

end Sys2Proof.Machine

/-! What the retirement of a record does in each of its states: RETIRE (O21), and the cut-off of a tail, with the roll-back of a PLACE (O32, O33). -/

namespace Sys2Proof.Machine

/-! ## A record retired (R33, R43 to R45) -/

theorem handleOf_fields (h : Handle) : handleOf (handleEntry h) (handleStamp h) = h := by
  have hentry : BitVec.ofFin (handleEntry h) = h.extractLsb' 6 10 := rfl
  rw [handleOf, hentry]
  exact (extractLsb'_append h 0).trans BitVec.extractLsb'_eq_self

theorem State.handleOfRecord_of_resolve {s : State} {h : Handle} {r : Record} (hr : s.resolve h = some r) : s.handleOfRecord r = h := by
  obtain ⟨-, hentry, hstamp⟩ := s.resolve_some h r hr
  rw [State.handleOfRecord]
  simp only [hentry, hstamp, handleOf_fields]

theorem State.releaseRecordBanks_eq_panel (s : State) (h : Handle) :
    s.releaseRecordBanks h = { s with panel := (s.releaseRecordBanks h).panel } := by
  obtain ⟨hpending, hpins, hsup, hplates, hmasters, hqueue, hreports, hdir, hraster, hseq, hmotion, hdose, hlink, hanswer⟩ :=
    s.releaseRecordBanks_keeps h
  rw [← hpending, ← hpins, ← hsup, ← hplates, ← hmasters, ← hqueue, ← hreports, ← hdir, ← hraster, ← hseq, ← hmotion, ← hdose, ← hlink,
    ← hanswer]

section
variable {s : State} {r : Record}

theorem State.retireRecord_of_awaiting (h : r.state = .awaiting) : s.retireRecord r = s.afterDeletion r (fun m => m.set r.cell .free) := by
  simp only [State.retireRecord, h, State.deleteRecord_some]

/-- A record on a bank: the bank is let go, and the record deleted. -/
theorem State.retireRecord_of_bank (h : r.state = .filling ∨ r.state = .loaded) :
    s.retireRecord r = { s.afterDeletion r (fun m => m.set r.cell .free) with panel := (s.releaseRecordBanks (s.handleOfRecord r)).panel } := by
  have heq : s.retireRecord r = (s.releaseRecordBanks (s.handleOfRecord r)).deleteRecord r (some .free) := by
    rcases h with h | h <;> simp only [State.retireRecord, h]
  rw [heq, State.deleteRecord_some, State.releaseRecordBanks_eq_panel]
  rfl

theorem State.retireRecord_of_marred (h : r.state = .spoiled ∨ r.state = .lost) : s.retireRecord r = s.afterDeletion r (fun m => m) := by
  rcases h with h | h <;> simp only [State.retireRecord, h, State.deleteRecord_none]

theorem State.retireRecord_of_exposed (h : r.state = .exposed) :
    s.retireRecord r = { s with
      dir := s.dirWith r.entry (fun x => { x with state := .withdrawn })
      masters := s.masters.set r.slot ((s.master r.slot).afterChange (fun m => m) (s.othersSettled r.slot r.entry)) } := by
  have heq : s.retireRecord r = ((s.mapRecord r.entry (fun x => { x with state := .withdrawn })).advance r.slot).settleTest r.slot := by
    simp only [State.retireRecord, h]
  rw [heq, State.advance_settleTest, State.settledCondition_mapRecord fun _ _ _ => .inr rfl]
  rfl

theorem State.retireRecord_of_inFlight (h : r.state = .inFlight) :
    s.retireRecord r = { s with dir := s.dirWith r.entry (fun x => { x with retirePending := true }) } := by
  simp only [State.retireRecord, h]
  rfl

theorem State.retireRecord_of_withdrawn (h : r.state = .withdrawn) : s.retireRecord r = s := by
  simp only [State.retireRecord, h]

end

theorem State.thenExamines_retireRecord {s : State} (r : Record) (hrun : s.sup.phase = .running) (hfits : s.streamFits) :
    (s.retireRecord r).thenExamines (s.retireRecord r).streamGo := by
  have hsup : (s.retireRecord r).sup = s.sup := by simp
  have hraster : (s.retireRecord r).raster = s.raster := by simp
  exact State.thenExamines_streamGo _ (by rw [hsup]; exact hrun) (State.streamFits_congr hfits (congrArg _ hraster) (congrArg _ hraster)
    (congrArg _ hraster))

/-! ## RETIRE (R42) -/

theorem RecState.retireOutcome_eq (st : RecState) : st.retireOutcome = if st = .exposed then 1 else if st = .inFlight then 2 else 0 := by
  cases st <;> rfl

theorem MasterState.indexFrozen_iff (m : MasterState) : m.indexFrozen = true ↔ m = .indexing ∨ m = .indexed ∨ m = .finished := by
  cases m <;> decide

/-- Settles O21. -/
theorem retireActsByState : Obligations.RetireActsByState := by
  intro src h s hreq hfree
  have hack : ∀ {t r}, s.recordAuthority src h = true → ownRetire h s = .ack t r → exec (.retire .direct src h) s = .next (t.ackTail 0x0B r) :=
    fun hauth hown => exec_ack hreq rfl (dispatch_of_authorised hauth hfree hown)
  refine ⟨fun hr => hack (State.recordAuthority_of_none src hr) (by rw [ownRetire, hr]), fun r hr hsrc => ?_⟩
  have hauth := State.recordAuthority_of_resolve hr hsrc
  refine ⟨fun hbad => hack hauth ?_, fun hindexing hindexed hfinished hfits hrec => ?_⟩
  · rw [← or_assoc, ← or_assoc, or_assoc (a := (s.master r.slot).state = .indexing), ← MasterState.indexFrozen_iff] at hbad
    simp only [ownRetire, hr]
    split_ifs with hfrozen hwithdrawn
    · rfl
    · rfl
    · exact absurd hbad (not_or.mpr ⟨hfrozen, hwithdrawn⟩)
  · have hfrozen : ¬ (s.master r.slot).state.indexFrozen = true := fun hf =>
      ((MasterState.indexFrozen_iff _).mp hf).elim hindexing fun hf => hf.elim hindexed hfinished
    have hown : ownRetire h s = .data (s.retireRecord r).streamGo [r.state.retireOutcome] := by
      simp only [ownRetire, hr, if_neg hfrozen, if_neg hrec]
    refine ⟨s.retireRecord r, (s.retireRecord r).streamGo, State.thenExamines_retireRecord r hreq.1 hfits, ?_, State.retireRecord_of_awaiting,
      fun hbank => ⟨?_, ?_⟩, State.retireRecord_of_marred, State.retireRecord_of_exposed, State.retireRecord_of_inFlight⟩
    · rw [exec_data hreq rfl (dispatch_of_authorised hauth hfree hown), RecState.retireOutcome_eq]
    · rw [State.retireRecord_of_bank hbank]
    · rw [State.retireRecord_of_bank hbank, State.handleOfRecord_of_resolve hr]
      exact State.banksLetGo_congr (s.banksLetGo_releaseRecordBanks h) rfl

/-! ## The cause of a cut-off (R34, R174) -/

theorem State.answersClash_eq (s : State) : s.answersClash = (s.answer.map (·.clashes)).getD false := by
  unfold State.answersClash PendingAnswer.clashes
  cases s.answer with
  | none => simp
  | some p => simp

theorem State.settleLoss_eq (s : State) : s.settleLoss = s.tailLost := by
  have hlatch : (if (s.answer.map (·.clashes)).getD false = true then s.latchClash else s) =
      { s with sup := { s.sup with cls := s.sup.cls || s.answersClash } } := by
    rw [State.answersClash_eq]
    split
    next h => rw [h, Bool.or_true]; rfl
    next h => rw [Bool.eq_false_iff.mpr h, Bool.or_false]
  unfold State.settleLoss State.tailLost
  rw [hlatch]
  dsimp only
  cases s.link.tail with
  | none => rfl
  | some t =>
    obtain ⟨bytes, n, cut⟩ := t
    cases bytes <;> rfl

theorem State.settleCause_eq (s : State) (cause : CutCause) : s.settleCause cause = s.causeSettled cause := by
  cases cause with
  | lostArbitration => exact s.settleLoss_eq
  | bitError | breakPulse | invalidSymbol | unsettled => rfl

/-- What the line can show at a bit of a tail (R174). -/
theorem Tail.shows_iff (t : Tail) (n : Nat) (cause : CutCause) :
    t.shows n cause = true ↔ (if t.cut = true then n = t.nextBit else t.nextBit ≤ n) ∧ differs t.bytes.sent n cause := by
  have hrange : ∀ b, t.bytes.bit? n = some b → n < 8 * t.bytes.sent.length := fun b h => by
    have hlt := (List.getElem?_eq_some_iff.mp h).1
    rwa [bitsOf_length] at hlt
  have hsome : (t.bytes.bit? n).isSome = true ↔ n < 8 * t.bytes.sent.length := by
    rw [TailBytes.bit?, Option.isSome_iff_ne_none, ne_eq, List.getElem?_eq_none_iff, Nat.not_le, bitsOf_length]
  unfold Tail.shows differs
  rw [Bool.and_eq_true, decide_eq_true_iff]
  refine and_congr_right fun _ => ?_
  cases cause with
  | lostArbitration => exact decide_eq_true_iff.trans ⟨fun h => ⟨hrange true h, fun _ => h, nofun⟩, fun ⟨_, h, _⟩ => h rfl⟩
  | bitError => exact decide_eq_true_iff.trans ⟨fun h => ⟨hrange false h, nofun, fun _ => h⟩, fun ⟨_, _, h⟩ => h rfl⟩
  | breakPulse | invalidSymbol | unsettled => exact hsome.trans ⟨fun h => ⟨h, nofun, nofun⟩, And.left⟩

/-! ## A tail that has come to a bit (R176; log entry 8) -/

/-- Only the status byte of a DATA tail not cut off is read. -/
theorem State.readStatusByte_of_read {s : State} {t : Tail} (htail : s.link.tail = some t)
    (h : t.cut = true ∨ ∀ head payload, t.bytes ≠ .data head none payload) : s.readStatusByte = s := by
  unfold State.readStatusByte
  split
  next head payload n heq =>
    rw [htail, Option.some.injEq] at heq
    subst heq
    rcases h with hcut | hbytes
    · exact nomatch hcut
    · exact absurd rfl (hbytes head payload)
  · rfl

theorem State.tailAt_of_read {s : State} {t : Tail} (htail : s.link.tail = some t) {bit : Nat}
    (h : t.cut = true ∨ bit < 8 ∨ ∀ head payload, t.bytes ≠ .data head none payload) : s.tailAt bit = s := by
  unfold State.tailAt
  split
  next hbit => exact State.readStatusByte_of_read htail (h.imp_right fun h => h.resolve_left (Nat.not_lt.mpr hbit))
  · rfl

theorem State.readStatusByte_tail {s : State} {head : Byte} {payload : List Byte} {n : Nat}
    (htail : s.link.tail = some { bytes := .data head none payload, nextBit := n, cut := false }) :
    s.readStatusByte.link = { s.link with tail := some { bytes := .data head (some s.statusByte) payload, nextBit := 8, cut := false } } := by
  simp only [State.readStatusByte, htail]
  split <;> rfl

theorem State.readStatusByte_phase (s : State) : s.readStatusByte.sup.phase = s.sup.phase := by
  unfold State.readStatusByte
  split
  · dsimp only
    split <;> rfl
  · rfl

/-- Where the answer clears no flag the reading changes the tail alone. -/
theorem State.readStatusByte_of_unclearing {s : State} {head : Byte} {payload : List Byte} {n : Nat}
    (htail : s.link.tail = some { bytes := .data head none payload, nextBit := n, cut := false })
    (hclear : ∀ p ∈ s.answer, p.clearing = false) :
    s.readStatusByte = { s with link := { s.link with
      tail := some { bytes := .data head (some s.statusByte) payload, nextBit := 8, cut := false } } } := by
  have hnot : (s.answer.map (·.clearing)).getD false = false := by
    cases hanswer : s.answer with
    | none => rfl
    | some p => exact hclear p hanswer
  simp only [State.readStatusByte, htail, hnot, Bool.false_eq_true, if_false]

/-! ## The report of a cut-off (R174) -/

theorem State.reportCutOff_of_uncreated {s : State} (h : ∀ p, s.answer = some p → p.created = none) : s.reportCutOff = s := by
  have hnone : s.answer.bind (·.created) = none := by
    cases hanswer : s.answer with
    | none => rfl
    | some p => exact h p hanswer
  simp only [State.reportCutOff, hnone]

section
variable {s : State} {t : Tail}

theorem State.cutOff_of_cut (htail : s.link.tail = some t) (hcut : t.cut = true) (bit : Nat) (cause : CutCause) :
    s.cutOff bit cause = s.causeSettled cause := by
  simp only [State.cutOff, htail, hcut, if_true, State.settleCause_eq]

/-- A tail not yet cut off comes to the bit, a placement is rolled back, and the cause acts. -/
theorem State.cutOff_of_uncut (htail : s.link.tail = some t) (hcut : t.cut = false) (bit : Nat) (cause : CutCause) :
    s.cutOff bit cause = ({ s.tailAt bit with link := { (s.tailAt bit).link with
      tail := (s.tailAt bit).link.tail.map (fun t => { t with nextBit := bit }) } } : State).reportCutOff.causeSettled cause := by
  simp only [State.cutOff, htail, hcut, Bool.false_eq_true, if_false, State.settleCause_eq]

/-- A tail not yet cut off, whose status byte is as it will stay at the bit. -/
theorem State.cutOff_of_read (htail : s.link.tail = some t) (hcut : t.cut = false) {bit : Nat}
    (hread : bit < 8 ∨ ∀ head payload, t.bytes ≠ .data head none payload) (hanswer : ∀ p, s.answer = some p → p.created = none)
    (cause : CutCause) :
    s.cutOff bit cause = ({ s with link := { s.link with tail := some { t with nextBit := bit } } } : State).causeSettled cause := by
  rw [State.cutOff_of_uncut htail hcut, State.tailAt_of_read htail (bit := bit) (.inr hread), htail, Option.map_some,
    State.reportCutOff_of_uncreated (by exact hanswer)]

/-- A report is taken if the line can show it at the bit that the tail has come to. -/
theorem State.takeCutOff_of_read (htail : s.link.tail = some t) {bit : Nat}
    (hread : t.cut = true ∨ bit < 8 ∨ ∀ head payload, t.bytes ≠ .data head none payload) (cause : CutCause) :
    (((if t.cut = true then bit = t.nextBit else t.nextBit ≤ bit) ∧ differs t.bytes.sent bit cause) → s.takeCutOff bit cause = s.cutOff bit cause) ∧
    (¬ ((if t.cut = true then bit = t.nextBit else t.nextBit ≤ bit) ∧ differs t.bytes.sent bit cause) → s.takeCutOff bit cause = s) := by
  have hshows : ((s.tailAt bit).link.tail.map (fun t => t.shows bit cause)).getD false = t.shows bit cause := by
    rw [State.tailAt_of_read htail hread, htail]
    rfl
  rw [← Tail.shows_iff, State.takeCutOff, hshows]
  exact ⟨fun h => if_pos h, fun h => if_neg h⟩

/-- The cut-off of a tail whose status byte is read by the bit. -/
theorem State.takeCutOff_of_unread {head : Byte} {payload : List Byte} (htail : s.link.tail = some t) (hcut : t.cut = false)
    (hbytes : t.bytes = .data head none payload) {bit : Nat} (hbit : 8 ≤ bit) (cause : CutCause) :
    (differs (s.bytesAt bit t.bytes).sent bit cause → s.takeCutOff bit cause = s.cutOff bit cause) ∧
    (¬ differs (s.bytesAt bit t.bytes).sent bit cause → s.takeCutOff bit cause = s) := by
  obtain ⟨bytes, n, cut⟩ := t
  obtain rfl : cut = false := hcut
  obtain rfl : bytes = .data head none payload := hbytes
  have hshows : ((s.tailAt bit).link.tail.map (fun t => t.shows bit cause)).getD false =
      ({ bytes := .data head (some s.statusByte) payload, nextBit := 8, cut := false } : Tail).shows bit cause := by
    rw [State.tailAt, if_pos hbit, State.readStatusByte_tail htail]
    rfl
  have hat : s.bytesAt bit (.data head none payload) = .data head (some s.statusByte) payload := by
    simp only [State.bytesAt, if_neg (Nat.not_lt.mpr hbit)]
  have hiff : ({ bytes := .data head (some s.statusByte) payload, nextBit := 8, cut := false } : Tail).shows bit cause = true ↔
      differs (s.bytesAt bit (.data head none payload)).sent bit cause := by
    rw [Tail.shows_iff, hat]
    exact and_iff_right hbit
  rw [State.takeCutOff, hshows]
  exact ⟨fun h => if_pos (hiff.mpr h), fun h => if_neg fun hs => h (hiff.mp hs)⟩

end

/-! ## The commands that report a cut-off -/

section
variable {s : State} (hrun : s.sup.phase = .running) (hiface : s.link.iface = .answer)
include hrun hiface

theorem exec_tailCutOff (bit : Nat) (cause : CutCause) : exec (.tailCutOff bit cause) s = .next (s.takeCutOff bit cause) := by
  refine congrArg Host.Outcome.next ((s.whileRunning_of_running _ hrun).trans ?_)
  simp only [hiface]

theorem exec_statusByteRead : exec .statusByteRead s = .next s.readStatusByte := by
  refine congrArg Host.Outcome.next ((s.whileRunning_of_running _ hrun).trans ?_)
  simp only [hiface]

theorem exec_breakPulse_of_answer : exec .breakPulse s = .next (s.cutOff s.tailBit .breakPulse) := by
  refine congrArg Host.Outcome.next ((s.whileRunning_of_running _ hrun).trans ?_)
  simp only [hiface]

theorem exec_invalidSymbol_of_answer : exec .invalidSymbol s = .next (s.cutOff s.tailBit .invalidSymbol) := by
  refine congrArg Host.Outcome.next ((s.whileRunning_of_running _ hrun).trans ?_)
  simp only [State.onInvalidSymbol, hiface]

theorem exec_openingMark_of_answer : exec .openingMark s = .next (s.cutOff s.tailBit .invalidSymbol) := by
  refine congrArg Host.Outcome.next ((s.whileRunning_of_running _ hrun).trans ?_)
  simp only [State.onInvalidSymbol, hiface]

end

/-- A cut-off at the bit that a report has told, of a tail that is not read there and created no record. -/
theorem State.cutOff_tailBit {s : State} {t : Tail} (htail : s.link.tail = some t)
    (h : t.cut = true ∨ (∀ p, s.answer = some p → p.created = none) ∧ (t.nextBit < 8 ∨ ∀ head payload, t.bytes ≠ .data head none payload)) :
    s.cutOff s.tailBit .breakPulse = s.inSync false ∧ s.cutOff s.tailBit .invalidSymbol = s.linkFailed .badSymbol := by
  have hbit : s.tailBit = t.nextBit := by rw [State.tailBit, htail]; rfl
  rw [hbit]
  cases hcut : t.cut with
  | true => exact ⟨State.cutOff_of_cut htail hcut _ _, State.cutOff_of_cut htail hcut _ _⟩
  | false =>
    obtain ⟨hanswer, hread⟩ := h.resolve_left (Bool.eq_false_iff.mp hcut)
    exact ⟨State.cutOff_of_read htail hcut hread hanswer _, State.cutOff_of_read htail hcut hread hanswer _⟩

/-- Settles O32. -/
theorem cutOffTailsEndByTheirCause : Obligations.CutOffTailsEndByTheirCause := by
  intro s t hrun hiface htail
  refine ⟨fun bit cause hcut => ?_, fun bit cause hcut hread => ?_, fun bit cause head payload u hcut hbit hbytes hu => ?_, fun h => ?_⟩
  · obtain ⟨htaken, hignored⟩ := State.takeCutOff_of_read htail (bit := bit) (.inl hcut) cause
    simp only [hcut, if_true] at htaken hignored
    refine ⟨fun hbit hdiffers => ?_, fun h => ?_⟩
    · rw [exec_tailCutOff hrun hiface, htaken ⟨hbit, hdiffers⟩, State.cutOff_of_cut htail hcut]
    · rw [exec_tailCutOff hrun hiface, hignored fun hboth => h.elim (fun hne => hne hboth.1) fun hnot => hnot hboth.2]
  · obtain ⟨htaken, hignored⟩ := State.takeCutOff_of_read htail (.inr hread) cause
    simp only [hcut, Bool.false_eq_true, if_false] at htaken hignored
    refine ⟨fun hbit hdiffers hanswer => ?_, fun h => ?_⟩
    · rw [exec_tailCutOff hrun hiface, htaken ⟨hbit, hdiffers⟩, State.cutOff_of_read htail hcut hread hanswer]
    · rw [exec_tailCutOff hrun hiface, hignored fun hboth => h.elim (fun hlt => absurd hboth.1 (Nat.not_le.mpr hlt)) fun hnot => hnot hboth.2]
  · obtain ⟨htaken, hignored⟩ := State.takeCutOff_of_unread htail hcut hbytes hbit cause
    refine ⟨fun hdiffers => ?_, fun hnot => by rw [exec_tailCutOff hrun hiface, hignored hnot]⟩
    obtain rfl : s.readStatusByte = u := Host.Outcome.next.inj ((exec_statusByteRead hrun hiface).symm.trans hu)
    obtain ⟨bytes, n, cut⟩ := t
    obtain rfl : cut = false := hcut
    obtain rfl : bytes = .data head none payload := hbytes
    have hlink := State.readStatusByte_tail htail
    have hat : s.bytesAt bit (.data head none payload) = .data head (some s.statusByte) payload := by
      simp only [State.bytesAt, if_neg (Nat.not_lt.mpr hbit)]
    have hread : s.readStatusByte.link.tail = some { bytes := .data head (some s.statusByte) payload, nextBit := 8, cut := false } := by rw [hlink]
    obtain ⟨htaken', -⟩ := State.takeCutOff_of_read hread (bit := bit) (.inr (.inr nofun)) cause
    rw [exec_tailCutOff hrun hiface, htaken hdiffers, exec_tailCutOff (by rw [State.readStatusByte_phase]; exact hrun) (by rw [hlink]; exact hiface),
      htaken' ⟨hbit, hat ▸ hdiffers⟩, State.cutOff_of_uncut htail rfl, State.cutOff_of_uncut hread rfl,
      State.tailAt_of_read hread (bit := bit) (.inr (.inr nofun)), State.tailAt, if_pos hbit]
  · obtain ⟨hbreak, hsymbol⟩ := State.cutOff_tailBit htail h
    exact ⟨by rw [exec_breakPulse_of_answer hrun hiface, hbreak], by rw [exec_openingMark_of_answer hrun hiface, hsymbol],
      by rw [exec_invalidSymbol_of_answer hrun hiface, hsymbol]⟩

/-! ## A PLACE rolled back (R33) -/

/-- A tail that has come to a bit, with its bytes there. -/
def State.tailTold (s : State) (t : Tail) (bit : Nat) : State :=
  { s with link := { s.link with tail := some { t with bytes := s.bytesAt bit t.bytes, nextBit := bit } } }

theorem State.bytesAt_of_read {s : State} {bytes : TailBytes} {bit : Nat} (h : bit < 8 ∨ ∀ head payload, bytes ≠ .data head none payload) :
    s.bytesAt bit bytes = bytes := by
  match bytes with
  | .ack _ => rfl
  | .roll _ => rfl
  | .data _ (some _) _ => rfl
  | .data head none payload =>
    have hlt : bit < 8 := h.resolve_right fun hne => hne head payload rfl
    simp only [State.bytesAt, if_pos hlt]

/-- The bytes of a tail are read by the bit, or the status byte is still to be read there. -/
theorem TailBytes.read_or_unread (bytes : TailBytes) (bit : Nat) :
    (bit < 8 ∨ ∀ head payload, bytes ≠ .data head none payload) ∨ (8 ≤ bit ∧ ∃ head payload, bytes = .data head none payload) := by
  by_cases h : bit < 8 ∨ ∀ head payload, bytes ≠ .data head none payload
  · exact .inl h
  · rw [not_or] at h
    obtain ⟨hbit, hbytes⟩ := h
    refine .inr ⟨Nat.not_lt.mp hbit, ?_⟩
    by_contra hnone
    exact hbytes fun head payload heq => hnone ⟨head, payload, heq⟩

section
variable {s : State} {t : Tail} (htail : s.link.tail = some t) (hcut : t.cut = false) (hclear : ∀ p ∈ s.answer, p.clearing = false)
include htail hcut hclear

theorem State.tailAt_eq_tailTold (bit : Nat) :
    ({ s.tailAt bit with link := { (s.tailAt bit).link with
      tail := (s.tailAt bit).link.tail.map (fun t => { t with nextBit := bit }) } } : State) = s.tailTold t bit := by
  rcases t.bytes.read_or_unread bit with hread | ⟨hbit, head, payload, hbytes⟩
  · rw [State.tailAt_of_read htail (bit := bit) (.inr hread), State.tailTold, State.bytesAt_of_read hread, htail]
    rfl
  · obtain ⟨bytes, n, cut⟩ := t
    obtain rfl : cut = false := hcut
    obtain rfl : bytes = .data head none payload := hbytes
    rw [State.tailAt, if_pos hbit, State.readStatusByte_of_unclearing htail hclear, State.tailTold]
    simp only [State.bytesAt, if_neg (Nat.not_lt.mpr hbit)]
    rfl

/-- The cut-off of the tail of a placement (R33). -/
theorem State.cutOff_of_created {p : PendingAnswer} {h : Handle} {r : Record} (hanswer : s.answer = some p) (hcreated : p.created = some h)
    (hr : s.resolve h = some r) (bit : Nat) (cause : CutCause) :
    s.cutOff bit cause = ((s.tailTold t bit).retireRecord r).streamGo.causeSettled cause := by
  have hbind : (s.tailTold t bit).answer.bind (·.created) = some h := by
    change s.answer.bind (·.created) = some h
    rw [hanswer, Option.bind_some, hcreated]
  have hresolve : (s.tailTold t bit).resolve h = some r := hr
  rw [State.cutOff_of_uncut htail hcut, State.tailAt_eq_tailTold htail hcut hclear, State.reportCutOff, hbind]
  simp only [hresolve]

omit hclear in
/-- A report that the line can show at a bit still to be sent. -/
theorem State.takeCutOff_of_differs {bit : Nat} {cause : CutCause} (hbit : t.nextBit ≤ bit) (hdiffers : differs (s.bytesAt bit t.bytes).sent bit cause) :
    s.takeCutOff bit cause = s.cutOff bit cause := by
  rcases t.bytes.read_or_unread bit with hread | ⟨hle, head, payload, hbytes⟩
  · obtain ⟨htaken, -⟩ := State.takeCutOff_of_read htail (.inr hread) cause
    simp only [hcut, Bool.false_eq_true, if_false] at htaken
    exact htaken ⟨hbit, State.bytesAt_of_read hread ▸ hdiffers⟩
  · exact (State.takeCutOff_of_unread htail hcut hbytes hle cause).1 hdiffers

end

/-- The banks that a retirement lets go: that of a record in FILLING or LOADED (R43). -/
theorem State.banksLetGo_retireRecord {s : State} {h : Handle} {r : Record} (hr : s.resolve h = some r) :
    s.banksLetGo (s.retireRecord r) (fun id => decide ((s.bank id).binding = some (.record h) ∧ (r.state = .filling ∨ r.state = .loaded))) := by
  by_cases hbank : r.state = .filling ∨ r.state = .loaded
  · simp only [hbank, and_true]
    rw [State.retireRecord_of_bank hbank, State.handleOfRecord_of_resolve hr]
    exact State.banksLetGo_congr (s.banksLetGo_releaseRecordBanks h) rfl
  · refine State.banksLetGo_of_panel ?_ fun id => decide_eq_false fun hboth => hbank hboth.2
    rw [not_or] at hbank
    cases hst : r.state with
    | awaiting => rw [State.retireRecord_of_awaiting hst]; rfl
    | filling => exact absurd hst hbank.1
    | loaded => exact absurd hst hbank.2
    | inFlight => rw [State.retireRecord_of_inFlight hst]
    | exposed => rw [State.retireRecord_of_exposed hst]
    | withdrawn => rw [State.retireRecord_of_withdrawn hst]
    | spoiled => rw [State.retireRecord_of_marred (.inl hst)]; rfl
    | lost => rw [State.retireRecord_of_marred (.inr hst)]; rfl

/-- What a retirement touches. -/
theorem State.retireRecord_eq (s : State) (r : Record) :
    s.retireRecord r = { s with dir := (s.retireRecord r).dir, masters := (s.retireRecord r).masters, panel := (s.retireRecord r).panel } := by
  obtain ⟨hpending, hpins, hsup, hplates, hqueue, hreports, hraster, hseq, hmotion, hdose, hlink, hanswer⟩ := s.retireRecord_keeps r
  rw [← hpending, ← hpins, ← hsup, ← hplates, ← hqueue, ← hreports, ← hraster, ← hseq, ← hmotion, ← hdose, ← hlink, ← hanswer]

/-- Settles O33: the roll-back is the retirement of the record, whichever command cuts the tail off. -/
theorem cutOffPlacementsAreRolledBack : Obligations.CutOffPlacementsAreRolledBack := by
  intro s t p h r c bit cause hrun hiface htail hcut hanswer hcreated hclearing hr hfits hc
  have hclear : ∀ q ∈ s.answer, q.clearing = false := fun q hq => by
    rw [hanswer, Option.mem_some] at hq
    exact hq ▸ hclearing
  have hroll := State.cutOff_of_created htail hcut hclear hanswer hcreated hr
  have hexec : exec c s = .next (s.cutOff bit cause) := by
    have hbit : s.tailBit = t.nextBit := by rw [State.tailBit, htail]; rfl
    rcases hc with ⟨rfl, hle, hdiffers⟩ | ⟨rfl, hreport⟩
    · rw [exec_tailCutOff hrun hiface, State.takeCutOff_of_differs htail hcut hle hdiffers]
    · rcases hreport with ⟨rfl, rfl⟩ | ⟨rfl | rfl, rfl⟩
      · rw [exec_breakPulse_of_answer hrun hiface, hbit]
      · rw [exec_invalidSymbol_of_answer hrun hiface, hbit]
      · rw [exec_openingMark_of_answer hrun hiface, hbit]
  refine ⟨(s.tailTold t bit).retireRecord r, ((s.tailTold t bit).retireRecord r).streamGo, hexec.trans (congrArg Host.Outcome.next (hroll bit cause)),
    State.thenExamines_retireRecord r hrun hfits, State.retireRecord_eq (s.tailTold t bit) r,
    State.banksLetGo_retireRecord (s := s.tailTold t bit) hr, fun hst => ?_, fun hst => ?_, fun hst => ?_, fun hst => ?_, fun hst => ?_⟩
  · rcases hst with hst | hst
    · rw [State.retireRecord_of_awaiting hst]; exact ⟨rfl, rfl⟩
    · rw [State.retireRecord_of_bank hst]; exact ⟨rfl, rfl⟩
  · rw [State.retireRecord_of_marred hst]; exact ⟨rfl, rfl⟩
  · rw [State.retireRecord_of_exposed hst]; exact ⟨rfl, rfl⟩
  · rw [State.retireRecord_of_inFlight hst]; exact ⟨rfl, rfl⟩
  · rw [State.retireRecord_of_withdrawn hst]; exact ⟨rfl, rfl⟩

end Sys2Proof.Machine

/-! The figures and the lines: the CRC (O34), the exposure limit (O43), positions and move messages (O44), and the flags and output pins (O51). -/

namespace Sys2Proof.Machine

/-! ## The CRC (R171) -/

/-- The shift back: the lowest bit tells whether the polynomial was added. -/
def crcUnshift (reg : Byte) : Byte := if reg.getLsbD 0 then ((reg ^^^ 0x2F) >>> 1) ||| 0x80 else reg >>> 1

theorem crcUnshift_crcShift (reg : Byte) : crcUnshift (crcShift reg) = reg := by
  revert reg
  decide

theorem crcShift_injective : Function.Injective crcShift := Function.LeftInverse.injective crcUnshift_crcShift

/-- The register after a byte tells the register before it with the byte added. -/
theorem crcByte_eq_iff (reg reg' b b' : Byte) : crcByte reg b = crcByte reg' b' ↔ reg ^^^ b = reg' ^^^ b' := by
  simp only [crcByte, crcShift_injective.eq_iff]

/-- Bytes after a difference keep it. -/
theorem foldl_crcByte_ne {reg reg' : Byte} (h : reg ≠ reg') (bytes : List Byte) : bytes.foldl crcByte reg ≠ bytes.foldl crcByte reg' := by
  induction bytes generalizing reg reg' with
  | nil => exact h
  | cons b rest ih =>
    refine ih fun heq => h ?_
    simpa using (crcByte_eq_iff _ _ _ _).mp heq

theorem crc_residue (bytes : List Byte) : crc (bytes ++ [crc bytes]) = 0 := by
  have hself : ∀ reg : Byte, crcByte reg reg = 0 := fun reg => by
    rw [crcByte, BitVec.xor_self]
    rfl
  rw [crc, List.foldl_append]
  exact hself _

/-- Settles O34. -/
theorem crcCatchesEveryOneByteChange : Obligations.CrcCatchesEveryOneByteChange := by
  refine ⟨crc_residue, fun before after b b' hne => ?_, fun head status payload => crc_residue (head :: status :: payload)⟩
  rw [crc, crc, List.foldl_append, List.foldl_append]
  refine foldl_crcByte_ne (fun heq => hne ?_) after
  simpa using (crcByte_eq_iff _ _ _ _).mp heq

/-! ## The exposure limit (R133, R134) -/

/-- The predicted time is the least one that reaches the target. -/
theorem predictedMs_eq {T C p : Nat} (hC : 0 < C) (hreach : T * 100 ≤ p * C) (hleast : ∀ q, T * 100 ≤ q * C → p ≤ q) :
    predictedMs T C = p := by
  have hdiv : C * predictedMs T C + (T * 100 + C - 1) % C = T * 100 + C - 1 := Nat.div_add_mod (T * 100 + C - 1) C
  have hmod := Nat.mod_lt (T * 100 + C - 1) hC
  rw [Nat.mul_comm C] at hdiv
  refine Nat.le_antisymm ?_ (hleast _ (by omega))
  have hlt : predictedMs T C * C < (p + 1) * C := by
    rw [Nat.succ_mul]
    omega
  exact Nat.lt_succ_iff.mp (Nat.lt_of_mul_lt_mul_right hlt)

/-- Settles O43. -/
theorem exposureFigures : Obligations.ExposureFigures := by
  refine ⟨fun T => rfl, fun T C p hC hreach hleast => ?_, fun T C => ?_, fun T => rfl, fun T hT => ?_, fun T hT => Nat.div_eq_of_lt hT⟩
  · rw [exposureLimit, if_neg hC.ne', predictedMs_eq hC hreach hleast]
    rfl
  · unfold exposureLimit Config.limitCeilingMs Config.limitFloorMs
    split <;> omega
  · unfold fogLimit
    omega

/-! ## Positions and move messages (R52 to R64) -/

theorem cellTarget_bounds (f : Format) (sl : Slot) {n : Nat} (hn : n < f.cellCount) :
    400 ≤ (cellTarget f sl n).x ∧ (cellTarget f sl n).x ≤ 187760 ∧ 2700 ≤ (cellTarget f sl n).y ∧ (cellTarget f sl n).y ≤ 19200 := by
  have hsl := sl.isLt
  cases f <;> simp only [Format.cellCount, Format.gridRows, Format.cols] at hn <;>
    simp only [cellTarget, slotWidth, titleBand, Format.originX, Format.originY, Format.cols, Format.pitchX, Format.pitchY] <;> omega

theorem cellTarget_injective (f : Format) (sl : Slot) {m n : Nat} (h : cellTarget f sl m = cellTarget f sl n) : m = n := by
  obtain ⟨hx, hy, -⟩ := Target.mk.inj h
  have hm := Nat.div_add_mod m f.cols
  have hn := Nat.div_add_mod n f.cols
  have hcol : m % f.cols = n % f.cols := by
    cases f <;> simp only [slotWidth, Format.cols, Format.pitchX] at hx ⊢ <;> omega
  have hrow : m / f.cols = n / f.cols := by
    cases f <;> simp only [Format.cols, Format.pitchY] at hy ⊢ <;> omega
  rw [← hm, ← hn, hcol, hrow]

/-- The fields of the move message (R64). -/
theorem moveMessage_fields (known : Option Turret) (t : Target) (hx : t.x < 2 ^ 24) (hy : t.y < 2 ^ 16) :
    ((moveMessage known t).extractLsb' 24 24).toNat = t.x ∧ ((moveMessage known t).extractLsb' 8 16).toNat = t.y ∧
      (moveMessage known t).extractLsb' 4 4 = t.turret.number ∧ (moveMessage known t).getLsbD 3 = decide (known ≠ some t.turret) ∧
      (moveMessage known t).extractLsb' 0 3 = 0 := by
  have hbit : ∀ b, (bit b).getLsbD 0 = b := by decide
  refine ⟨?_, ?_, ?_, ?_, ?_⟩
  · rw [moveMessage, BitVec.extractLsb'_append_eq_of_le (by decide), BitVec.extractLsb'_append_eq_of_le (by decide),
      BitVec.extractLsb'_append_eq_of_le (by decide), BitVec.extractLsb'_append_eq_left, BitVec.toNat_ofNat, Nat.mod_eq_of_lt hx]
  · rw [moveMessage, BitVec.extractLsb'_append_eq_of_le (by decide), BitVec.extractLsb'_append_eq_of_le (by decide),
      BitVec.extractLsb'_append_eq_of_le (by decide), BitVec.extractLsb'_append_eq_right, BitVec.toNat_ofNat, Nat.mod_eq_of_lt hy]
  · rw [moveMessage, BitVec.extractLsb'_append_eq_of_le (by decide), BitVec.extractLsb'_append_eq_of_le (by decide),
      BitVec.extractLsb'_append_eq_right]
  · rw [moveMessage, BitVec.getLsbD_append, if_neg (by decide), BitVec.getLsbD_append, if_pos (by decide)]
    exact hbit _
  · rw [moveMessage, BitVec.extractLsb'_append_eq_right]

/-- Settles O44. -/
theorem positionsAndMessages : Obligations.PositionsAndMessages := by
  refine ⟨fun f sl n hn => ?_, fun f sl h cell part => ⟨rfl, rfl, rfl⟩, rfl, rfl, rfl, by decide, by decide, by decide, fun f part => rfl⟩
  obtain ⟨hx, hx', hy, hy'⟩ := cellTarget_bounds f sl hn
  refine ⟨rfl, rfl, hx, hx', hy, hy', fun m _ heq => cellTarget_injective f sl heq, fun known msg hmsg => ?_⟩
  rw [hmsg]
  exact moveMessage_fields known _ (by omega) (by omega)

/-! ## Flags and output pins -/

/-- Eight flags in a byte, most significant first. -/
theorem flagByte_bits : ∀ a b c d e f g h : Bool,
    let byte : Byte := bit a ++ bit b ++ bit c ++ bit d ++ bit e ++ bit f ++ bit g ++ bit h
    byte.getLsbD 7 = a ∧ byte.getLsbD 6 = b ∧ byte.getLsbD 5 = c ∧ byte.getLsbD 4 = d ∧ byte.getLsbD 3 = e ∧ byte.getLsbD 2 = f ∧
      byte.getLsbD 1 = g ∧ byte.getLsbD 0 = h := by
  decide

/-- Bit by bit, the status byte shows the flags (R192). -/
theorem State.statusByte_bits (s : State) :
    s.statusByte.getLsbD 7 = s.sup.lnk ∧ s.statusByte.getLsbD 6 = s.sup.ras ∧ s.statusByte.getLsbD 5 = s.sup.cls ∧
    s.statusByte.getLsbD 4 = s.sup.plt ∧ s.statusByte.getLsbD 3 = s.hlt ∧ s.statusByte.getLsbD 2 = s.flt ∧
    s.statusByte.getLsbD 1 = s.lmp ∧ s.statusByte.getLsbD 0 = s.dlo :=
  flagByte_bits _ _ _ _ _ _ _ _

theorem State.pullsLink_iff {s : State} (hrun : s.sup.phase = .running) (n us : Nat) :
    s.pullsLink n us = true ↔ s.link.iface = .answer ∧ ∃ t, s.link.tail = some t ∧ t.cut = false ∧
      ∃ b, (t.bytes.sent)[n / 8]? = some b ∧ us < (if b.getLsbD (7 - n % 8) then 3 else 7) := by
  have hdrives : s.drivesLink = (decide (s.link.iface = .answer) && !((s.link.tail.map (·.cut)).getD true)) := by
    rw [State.drivesLink, State.outOfReset, decide_eq_true hrun, Bool.true_and]
  rw [State.pullsLink, State.linkBit, hdrives]
  by_cases hiface : s.link.iface = .answer
  · cases htail : s.link.tail with
    | none => simp
    | some t =>
      cases hcut : t.cut with
      | true => simp [hcut]
      | false =>
        simp only [hiface, hcut, Option.map_some, Option.getD_some, decide_true, Bool.not_false, Bool.and_self, if_true,
          Option.bind_some, TailBytes.bit?, bitsOf_getElem?, Option.map_map, true_and, Option.some.injEq, exists_eq_left']
        cases (t.bytes.sent)[n / 8]? with
        | none => simp
        | some b =>
          simp only [Option.map_some, Function.comp_apply, Option.getD_some, Option.some.injEq, exists_eq_left']
          exact decide_eq_true_iff
  · simp [hiface]

theorem State.ready_iff {s : State} (hrun : s.sup.phase = .running) :
    s.ready = true ↔ s.pins.flush = false ∧ (s.raster.direction = .inbound ∧ s.raster.fifo.length < 64 ∨
      s.raster.direction = .outbound ∧ s.raster.decoder = .listing ∧ s.raster.fifo ≠ []) := by
  have hroom : (decide (s.raster.fifo.length < Config.fifoWords) = true) ↔ s.raster.fifo.length < 64 := decide_eq_true_iff
  cases hdir : s.raster.direction <;> simp [State.ready, State.outOfReset, hrun, hdir, hroom]

/-- Settles O51. -/
theorem flagsFollowTheState : Obligations.FlagsFollowTheState := by
  intro s hrun
  have hout : s.outOfReset = true := decide_eq_true hrun
  obtain ⟨h7, h6, h5, h4, h3, h2, h1, h0⟩ := s.statusByte_bits
  refine ⟨decide_eq_true_iff, decide_eq_true_iff, decide_eq_true_iff, decide_eq_true_iff, ?_, ?_, h7, h6, h5, h4, h3, h2, h1, h0, ?_, fun us => ?_,
    fun us => ?_, fun risen => ?_, fun n => ?_, State.ready_iff hrun, fun risen => ?_, fun us => ?_, fun n us => State.pullsLink_iff hrun n us⟩
  · simp [State.alert, hout, State.flt, or_assoc]
  · simp [State.shutter, hout]
  · simp [State.pnlSel, hout]
  · simp [State.pnlShow, hout]
  · simp [State.motGo, hout]
  · simp [State.motClk, hout]
  · have hn := n.isLt
    cases hm : s.motion.message with
    | none => simp [State.motDat, hm]
    | some m => simp [State.motDat, hout, hm, BitVec.getMsbD, hn]
  · simp [State.readyAt]
  · simp [State.lampPwm, hout]

end Sys2Proof.Machine

/-! The Link Interface outside ANSWER (O30), and tails read and completed (O31). -/

namespace Sys2Proof.Machine

/-- A command of a running part gives what its effect gives. -/
theorem exec_of_whileRunning {c : Instr} {s : State} {f : State → State} (hrun : s.sup.phase = .running)
    (hexec : exec c s = .next (s.whileRunning f)) : exec c s = .next (f s) :=
  hexec.trans (congrArg Host.Outcome.next (s.whileRunning_of_running f hrun))

/-- Settles O30: each event by the state of the interface in which it comes. -/
theorem linkEventsOutsideAnswer : Obligations.LinkEventsOutsideAnswer := by
  intro s hrun
  refine ⟨fun hiface c hc => ?_, fun hiface => ⟨?_, fun c hc => ?_, ?_⟩, fun hiface => ⟨?_, ?_, ?_, ?_⟩, fun hiface => ⟨?_, ?_, ?_, ?_⟩,
    fun hiface => ⟨?_, ?_, ?_, ?_, ?_⟩⟩
  case refine_1 =>
    rcases hc with rfl | rfl | rfl | rfl | rfl | rfl | rfl | rfl | rfl | rfl <;>
      exact (exec_of_whileRunning hrun rfl).trans (by simp only [State.onInvalidSymbol, hiface])
  case refine_3 =>
    rcases hc with rfl | rfl | rfl <;>
      exact (exec_of_whileRunning hrun rfl).trans (by simp only [State.onInvalidSymbol, hiface])
  all_goals exact (exec_of_whileRunning hrun rfl).trans (by simp only [State.onInvalidSymbol, hiface] <;> rfl)

/-! ## Tails -/

/-- A clearing STATUS that shows every latched flag clears them all (R191). -/
theorem State.clearShown_statusByte (s : State) :
    s.clearShown s.statusByte = { s with sup := { s.sup with lnk := false, ras := false, cls := false, plt := false } } := by
  obtain ⟨h7, h6, h5, h4, -⟩ := s.statusByte_bits
  simp only [State.clearShown, h7, h6, h5, h4, Bool.and_not_self]

/-- What the reading of the status byte leaves of Supervision (R191). -/
def State.supAfterReading (s : State) : Supervision :=
  if ∃ p, s.answer = some p ∧ p.clearing = true then { s.sup with lnk := false, ras := false, cls := false, plt := false } else s.sup

theorem State.readStatusByte_of_unread {s : State} {head : Byte} {payload : List Byte} {n : Nat}
    (htail : s.link.tail = some { bytes := .data head none payload, nextBit := n, cut := false }) :
    s.readStatusByte = { s with
      sup := s.supAfterReading
      link := { s.link with tail := some { bytes := .data head (some s.statusByte) payload, nextBit := 8, cut := false } } } := by
  by_cases hclear : ∃ p, s.answer = some p ∧ p.clearing = true
  · obtain ⟨p, hanswer, hp⟩ := hclear
    rw [State.supAfterReading, if_pos ⟨p, hanswer, hp⟩]
    have hset : (s.answer.map (·.clearing)).getD false = true := by
      rw [hanswer]
      exact hp
    simp only [State.readStatusByte, htail, hset, if_true]
    exact congrArg (fun t : State => { s with sup := t.sup, link := { s.link with
      tail := some { bytes := .data head (some s.statusByte) payload, nextBit := 8, cut := false } } }) s.clearShown_statusByte
  · rw [State.supAfterReading, if_neg hclear]
    exact State.readStatusByte_of_unclearing htail fun p hp => Bool.eq_false_iff.mpr fun h => hclear ⟨p, hp, h⟩

theorem State.completeTail_of_tail {s : State} {t : Tail} (htail : s.link.tail = some t) :
    s.completeTail = if t.cut then s else s.waitsForMark := by
  simp only [State.completeTail, htail]
  rfl

theorem exec_tailComplete {s : State} (hrun : s.sup.phase = .running) (hiface : s.link.iface = .answer) :
    exec .tailComplete s = .next s.readStatusByte.completeTail :=
  (exec_of_whileRunning hrun rfl).trans (by simp only [hiface])

/-- Settles O31. -/
theorem tailsAreReadAndCompleted : Obligations.TailsAreReadAndCompleted := by
  intro s hrun hiface
  rw [exec_statusByteRead hrun hiface, exec_tailComplete hrun hiface]
  refine ⟨fun head payload n htail sup hsup => ?_, fun t htail hcut hbytes => ?_, fun t htail hcut => ?_⟩
  · rw [State.readStatusByte_of_unread htail, hsup]
    exact ⟨rfl, rfl⟩
  · rw [State.readStatusByte_of_read htail (.inr hbytes), State.completeTail_of_tail htail, hcut]
    exact ⟨rfl, rfl⟩
  · rw [State.readStatusByte_of_read htail (.inl hcut), State.completeTail_of_tail htail, hcut]
    exact ⟨rfl, rfl⟩

end Sys2Proof.Machine

/-! The exposure path up to the shutter: the job take (O41), readiness (O45), the motion port (O46) and gates (O50). -/

namespace Sys2Proof.Machine

/-! ## The job take (R107, R108) -/

/-- Settles O41. -/
theorem jobsAreTaken : Obligations.JobsAreTaken := by
  intro s hrun
  rw [exec_jobTake_of_running s hrun]
  refine ⟨fun h => congrArg Host.Outcome.next ((s.thenTakes_takeJob hrun).2 h), fun id rest kind sl factor f hpath hcal hqueue hfields hbinding target ht => ?_⟩
  obtain ⟨hjob, hdir, hrecord⟩ : (s.bank id).binding.bind s.jobOf = some (kind, sl, factor) ∧
      ((∀ h cell, kind ≠ .document h cell) → ∀ c, (s.takeRecord kind c).dir = s.dir) ∧
      ∀ h r, (s.bank id).binding = some (.record h) → s.resolve h = some r → ∀ c,
        (s.takeRecord kind c).dir = s.dirWith r.entry (fun x => { x with state := .inFlight, retirePending := false, clamped := some c }) := by
    rcases hbinding with ⟨h, r, hb, hr, rfl, rfl, rfl⟩ | ⟨part, hb, rfl, rfl⟩ | ⟨hb, rfl, rfl⟩
    · refine ⟨by rw [hb, Option.bind_some, s.jobOf_record hr]; rfl, fun hkind => absurd rfl (hkind h r.cell), fun h' r' hb' hr' c => ?_⟩
      obtain rfl : h = h' := by simpa [hb] using hb'
      obtain rfl : r = r' := by simpa [hr] using hr'
      simp only [State.takeRecord, hr]
      rfl
    · exact ⟨by rw [hb]; rfl, fun _ _ => rfl, fun h r hb' => by simp [hb] at hb'⟩
    · exact ⟨by rw [hb]; rfl, fun _ _ => rfl, fun h r hb' => by simp [hb] at hb'⟩
  rw [s.takeJob_of_head hpath hcal hqueue hjob hfields]
  refine ⟨_, rfl, ?_, ?_, fun hkind => hdir hkind _, fun h r hb hr => hrecord h r hb hr _, fun hport => ?_, fun hport => ?_, ?_⟩
  · rw [ht]
    obtain ⟨-, -, -, -, -, -, -, -, -, hseq, -⟩ := s.takeRecord_keeps kind (doseClamped (s.dose.baseOf f.format) factor (s.dose.trimOf sl))
    exact congrArg (fun q : Sequencer => { q with
      path := .preparing, job := some (s.newJob id kind sl factor f.format), panelTimer := true }) hseq
  · simp [State.takeJobOf, State.showBank, State.bank]
  · simp [State.takeJobOf, MotionPort.request, MotionPort.issue, hport]
  · rcases hport with hport | ⟨hport, hab⟩ <;> simp [State.takeJobOf, MotionPort.request, *]
  · simp [State.takeJobOf, State.showBank]

/-! ## The opening of the shutter (R110, R112) -/

/-- The state with the shutter open. -/
def State.shutterOpened (s : State) : State :=
  { s with seq := { s.seq with path := .exposing },
           dose := { s.dose with counter := .integrating, count := 0, limitTimer := true, darkWindow := .running, openTimer := true } }

section
variable {s : State}

theorem State.tryOpen_of_path (hpath : s.seq.path ≠ .preparing) : s.tryOpen = s := by
  unfold State.tryOpen
  split
  next h _ => exact absurd h hpath
  · rfl

theorem State.tryOpen_of_unready (h : ∀ j, s.seq.path = .preparing → s.seq.job = some j →
    j.arrived = false ∨ j.panelReady = false ∨ s.dose.gateRuns = true) : s.tryOpen = s := by
  unfold State.tryOpen
  split
  next j hpath hjob =>
    refine if_neg fun ⟨harrived, hready, hgate⟩ => ?_
    rcases h j hpath hjob with h | h | h
    · exact Bool.false_ne_true (h.symm.trans harrived)
    · exact Bool.false_ne_true (h.symm.trans hready)
    · exact Bool.false_ne_true (hgate.symm.trans h)
  · rfl

theorem State.tryOpen_of_ready {j : Job} (hpath : s.seq.path = .preparing) (hjob : s.seq.job = some j) (harrived : j.arrived = true)
    (hready : j.panelReady = true) (hgate : s.dose.gateRuns = false) (hplate : s.jobPlateGone j = false) : s.tryOpen = s.shutterOpened := by
  unfold State.tryOpen
  split
  next j' _ hjob' =>
    obtain rfl : j = j' := Option.some.inj (hjob.symm.trans hjob')
    exact (if_pos ⟨harrived, hready, hgate⟩).trans (if_neg (Bool.eq_false_iff.mp hplate))
  next h => exact absurd hjob (h j hpath)

end

/-- Settles O45. -/
theorem panelReadinessOpensTheShutter : Obligations.PanelReadinessOpensTheShutter := by
  intro s hrun
  refine ⟨fun h => (exec_of_whileRunning hrun rfl).trans (congrArg Host.Outcome.next (if_pos h)),
    fun h => (exec_of_whileRunning hrun rfl).trans (congrArg Host.Outcome.next (if_neg (by simp [h]))),
    fun h => (exec_of_whileRunning hrun rfl).trans (congrArg Host.Outcome.next (if_neg (by simp [h]))),
    fun h => (exec_of_whileRunning hrun rfl).trans (congrArg Host.Outcome.next (State.tryOpen_of_path h)),
    fun j hpath hjob hplate opened hopened => ⟨fun hawait => ?_, fun harrived hready hgate => ?_, fun h => ?_⟩⟩
  · have hexec : exec .panelReady s = .next ({ s with panel := { s.panel with awaiting := false }, seq :=
        { s.seq with job := some { j with panelReady := true }, panelTimer := false } } : State).tryOpen :=
      (exec_of_whileRunning hrun rfl).trans (congrArg Host.Outcome.next ((if_pos hawait).trans
        (State.reportPanelReady_of_preparing (s := { s with panel := { s.panel with awaiting := false } }) hpath hjob)))
    rw [hexec]
    refine ⟨fun h => congrArg Host.Outcome.next (State.tryOpen_of_unready fun j' _ hjob' => ?_), fun harrived hgate => ?_⟩
    · obtain rfl := Option.some.inj hjob'
      exact h.imp_right .inr
    · rw [hopened]
      exact congrArg Host.Outcome.next (State.tryOpen_of_ready hpath rfl harrived rfl hgate hplate)
  · rw [hopened]
    exact (exec_of_whileRunning hrun rfl).trans (congrArg Host.Outcome.next (State.tryOpen_of_ready hpath hjob harrived hready hgate hplate))
  · refine (exec_of_whileRunning hrun rfl).trans (congrArg Host.Outcome.next (State.tryOpen_of_unready fun j' _ hjob' => ?_))
    rw [hjob] at hjob'
    obtain rfl := Option.some.inj hjob'
    exact h

/-! ## Gates and lamp periods (R139, R142) -/

/-- Settles O50. -/
theorem gatesAndLampPeriodsEnd : Obligations.GatesAndLampPeriodsEnd := by
  intro s hrun
  refine ⟨congrArg Host.Outcome.next (s.whileRunning_of_running _ hrun), fun h => ?_, fun f rate dose hcal hrate hdose => ?_⟩
  · refine (exec_of_whileRunning hrun rfl).trans (congrArg Host.Outcome.next ?_)
    cases hc : s.dose.calibration with
    | running f => exact absurd hc (h f)
    | none | pending f => rfl
  · have hend : s.dose.endGate f = dose := by
      rw [hdose, hrate, DoseUnit.endGate, DoseUnit.applyHeld_keeps]
    have hexec : exec .gateEnd s = .next ({ s with dose := dose } : State).tryOpen.takeJob :=
      (exec_of_whileRunning hrun rfl).trans (congrArg Host.Outcome.next (by simp only [hcal, hend]))
    have hgate : dose.gateRuns = false := by rw [hdose, DoseUnit.gateRuns]
    rw [hexec]
    refine ⟨fun h => ?_, fun j hpath hjob harrived hready hplate => ?_⟩
    · rw [State.tryOpen_of_unready (s := { s with dose := dose }) fun j hpath hjob => (h j hpath hjob).imp_right .inl]
      exact ⟨_, rfl, State.thenTakes_takeJob _ hrun⟩
    · rw [State.tryOpen_of_ready (s := { s with dose := dose }) hpath hjob harrived hready hgate hplate]
      exact congrArg Host.Outcome.next ((State.thenTakes_takeJob (State.shutterOpened { s with dose := dose }) hrun).2 (.inl nofun))

/-! ## The motion port (R64 to R68) -/

/-- A drain that ends with a pending move issues it (R68). -/
theorem MotionPort.endDrain_some {m : MotionPort} {t : Target} (known : Option Turret) (h : m.pendingMove = some t) :
    m.endDrain known = { m with port := .sending, target := some t, moveTimer := false, turret := known, pendingMove := none,
                                message := some (moveMessage known t) } := by
  simp only [MotionPort.endDrain, h]
  rfl

theorem State.ownersReturned_withMotion (s : State) (m : MotionPort) (j : Job) :
    ({ s with motion := m } : State).ownersReturned j = { s.ownersReturned j with motion := m } := by
  obtain ⟨id, kind, sl, target, limitMs, fog, arrived, ready⟩ := j
  cases kind with
  | document h cell =>
    have hresolve : ({ s with motion := m } : State).resolve h = s.resolve h := rfl
    simp only [State.ownersReturned, State.recordReturned, hresolve]
    split
    · split
      · rw [State.deleteRecord_some, State.deleteRecord_some]
        rfl
      · rfl
    · rfl
  | index part => rfl
  | title => rfl

/-- A preparation ends as it would with another motion port, but for the abandoned move (R126). -/
theorem State.preparationFault_withMotion {s : State} {j : Job} (hpath : s.seq.path = .preparing) (hjob : s.seq.job = some j) (m : MotionPort)
    (why : PathFault) :
    ({ s with motion := m } : State).preparationFault why = { s.preparationFault why with motion := m.abandon } := by
  have hgone : ({ s with motion := m } : State).jobPlateGone j = s.jobPlateGone j := rfl
  simp only [State.preparationFault, hpath, hjob, hgone]
  split
  · simp only [State.endRemoved, hpath, if_true]
    exact State.streamGo_withMotion (((s.abandonPreparation).dropJob .faulted .plateRemoved).freeBank j.bank) m.abandon
  · simp only [State.endPreparing]
    rw [← State.streamGo_withMotion, ← State.ownersReturned_withMotion]
    rfl

theorem State.preparationFault_motion {s : State} {j : Job} (hpath : s.seq.path = .preparing) (hjob : s.seq.job = some j) (why : PathFault) :
    (s.preparationFault why).motion = s.motion.abandon :=
  congrArg State.motion (State.preparationFault_withMotion hpath hjob s.motion why)

/-- The ends of a move, each with what it tells of the turret (R65, R66, R67). -/
def State.endsMove (s : State) (c : Instr) (known : Option Turret) : Prop :=
  (c = .inPosition ∧ known = s.motion.target.map (fun m => m.turret)) ∨ (c = .motionFault ∧ known = none) ∨
    (c = .moveTimerExpiry ∧ s.motion.moveTimer = true ∧ known = none)

/-- Each of them ends a drain (R68). -/
theorem exec_of_draining {s : State} {c : Instr} {known : Option Turret} (hrun : s.sup.phase = .running) (hport : s.motion.port = .draining)
    (hc : s.endsMove c known) : exec c s = .next { s with motion := s.motion.endDrain known } := by
  rcases hc with ⟨rfl, rfl⟩ | ⟨rfl, rfl⟩ | ⟨rfl, htimer, rfl⟩
  · exact (exec_of_whileRunning hrun rfl).trans (by simp only [hport]; rfl)
  · exact (exec_of_whileRunning hrun rfl).trans (by simp only [hport])
  · exact (exec_of_whileRunning hrun rfl).trans (by simp only [htimer, hport, Bool.true_eq_false, if_false])

/-- None does anything to a port that makes no move. -/
theorem exec_of_still {s : State} (hrun : s.sup.phase = .running) (hport : s.motion.port = .idle ∨ s.motion.port = .sending) :
    exec .inPosition s = .next s ∧ exec .motionFault s = .next s ∧ exec .moveTimerExpiry s = .next s := by
  rcases hport with hport | hport <;>
    exact ⟨(exec_of_whileRunning hrun rfl).trans (by simp only [hport]), (exec_of_whileRunning hrun rfl).trans (by simp only [hport]),
      (exec_of_whileRunning hrun rfl).trans (by simp only [hport, ite_self])⟩

/-- The arrival of the carriage (R65, R110). -/
theorem exec_inPosition_of_moving {s : State} {j : Job} {motion : MotionPort} (hrun : s.sup.phase = .running) (hport : s.motion.port = .moving)
    (hpath : s.seq.path = .preparing) (hjob : s.seq.job = some j) (hmotion : motion = s.motion.finish s.motion.targetTurret) :
    exec .inPosition s =
      .next ({ s with motion := motion, seq := { s.seq with job := some { j with arrived := true } } } : State).tryOpen := by
  refine (exec_of_whileRunning hrun rfl).trans (congrArg Host.Outcome.next ?_)
  simp only [hport, ← hmotion]
  exact State.reportArrived_of_preparing (s := { s with motion := motion }) hpath hjob

theorem exec_panelTimeout {s : State} (hrun : s.sup.phase = .running) (htimer : s.seq.panelTimer = true) :
    exec .panelTimeout s = .next (s.preparationFault .panelTimeout) :=
  (exec_of_whileRunning hrun rfl).trans (congrArg Host.Outcome.next (if_pos htimer))

/-- Settles O46. -/
theorem theMotionPortFollowsTheMove : Obligations.TheMotionPortFollowsTheMove := by
  intro s hrun
  have hgo : exec .motGo s = .next { s with motion := s.motion.go } := congrArg Host.Outcome.next (s.whileRunning_of_running _ hrun)
  refine ⟨fun hport => ?_, fun hport => ?_, exec_of_still hrun, fun htimer => ?_, fun hport c known hc => ?_,
    fun j motion hport hpath hjob hplate hmotion => ?_, fun j motion hport hpending hpath hjob htimer hmotion => ?_, fun hport => ?_,
    fun hport => ?_, fun hport => ?_, fun hport => ?_⟩
  · rw [hgo, s.motion.go_port hport]
  · have hstay : s.motion.go = s.motion := by
      cases hp : s.motion.port with
      | sending => exact absurd hp hport
      | idle | moving | draining => simp only [MotionPort.go, hp]
    rw [hgo, hstay]
  · refine (exec_of_whileRunning hrun rfl).trans ?_
    exact congrArg Host.Outcome.next (if_pos htimer)
  · rw [exec_of_draining hrun hport hc]
    refine ⟨fun hpending => ?_, fun m hpending => ?_⟩
    · rw [s.motion.endDrain_none known hpending]
      rfl
    · rw [MotionPort.endDrain_some known hpending]
  · rw [exec_inPosition_of_moving hrun hport hpath hjob hmotion]
    refine ⟨fun h => congrArg Host.Outcome.next (State.tryOpen_of_unready fun j' _ hjob' => ?_), fun hready hgate =>
      congrArg Host.Outcome.next (State.tryOpen_of_ready hpath rfl rfl hready hgate hplate)⟩
    obtain rfl := Option.some.inj hjob'
    exact .inr h
  · have hu : (s.preparationFault .panelTimeout).motion = { s.motion with port := .draining } := by
      rw [State.preparationFault_motion hpath hjob]
      simp only [MotionPort.abandon, hport]
    have hphase : (s.preparationFault .panelTimeout).sup.phase = .running :=
      (State.preparationFault_latches_of_sup (s := s) .panelTimeout rfl).phase.trans hrun
    have hend : (s.preparationFault .panelTimeout).motion.endDrain (s.motion.target.map (fun m => m.turret)) = motion := by
      rw [hu]
      exact (MotionPort.endDrain_none { s.motion with port := .draining } _ hpending).trans hmotion.symm
    refine ⟨_, _, exec_panelTimeout hrun htimer, hu, exec_of_draining hphase (by rw [hu]) (.inl ⟨rfl, by rw [hu]⟩), hend, ?_⟩
    have hidle : motion.abandon = motion := by rw [hmotion, MotionPort.abandon]
    refine (exec_panelTimeout (s := { s with motion := motion }) hrun htimer).trans (congrArg Host.Outcome.next ?_)
    rw [State.preparationFault_withMotion hpath hjob, hidle, hend]
  all_goals simp only [MotionPort.abandon, hport]

end Sys2Proof.Machine

/-! What each end of a job leaves before the raster stream goes on (R97, R115 to R121): the dose unit, the open time, and the record, cell map,
master and bank of each outcome. -/

namespace Sys2Proof.Machine

/-! ## The dose unit -/

/-- What the close of the shutter leaves, whatever the lamp-dark window and the lamp rate were. -/
theorem DoseUnit.closesTo_close (d : DoseUnit) (dark : DarkWindow) (rate : Half) :
    d.closesTo ({ d with darkWindow := dark, rate := rate } : DoseUnit).close ∧
      ({ d with darkWindow := dark, rate := rate } : DoseUnit).close.rate = rate := by
  rw [DoseUnit.close, DoseUnit.applyHeld_keeps]
  cases hcal : d.calibration <;> simp [DoseUnit.closesTo, DoseUnit.closeShutter, DoseUnit.startPending, DoseUnit.startGate, hcal]

/-! ## The open time -/

/-- The open time that a job's end writes (R114). -/
def State.openTimeOf (s : State) (ms : Nat) : Option Nat := if 1 ≤ s.dose.count then some ms else none

theorem changedAt_id (e : Entry) (table : List Record) : changedAt e (fun x => x) table = table := by
  simp [changedAt]

theorem changedAt_changedAt {e : Entry} {f : Record → Record} (hf : ∀ x, (f x).entry = x.entry) (g : Record → Record) (table : List Record) :
    changedAt e g (changedAt e f table) = changedAt e (fun x => g (f x)) table := by
  rw [changedAt, changedAt, List.map_map]
  refine List.map_congr_left fun x _ => ?_
  by_cases he : x.entry = e <;> simp [he, hf]

theorem filter_changedAt {e : Entry} {f : Record → Record} (hf : ∀ x, (f x).entry = x.entry) (table : List Record) :
    (changedAt e f table).filter (fun x => decide (x.entry ≠ e)) = table.filter (fun x => decide (x.entry ≠ e)) := by
  induction table with
  | nil => rfl
  | cons x rest ih =>
    by_cases he : x.entry = e <;> simpa [changedAt, he, hf] using ih

@[simp] theorem Record.timed_entry (r : Record) (o : Option Nat) : (r.timed o).entry = r.entry := by cases o <;> rfl
@[simp] theorem Record.timed_slot (r : Record) (o : Option Nat) : (r.timed o).slot = r.slot := by cases o <;> rfl
@[simp] theorem Record.timed_cell (r : Record) (o : Option Nat) : (r.timed o).cell = r.cell := by cases o <;> rfl
@[simp] theorem Record.timed_retirePending (r : Record) (o : Option Nat) : (r.timed o).retirePending = r.retirePending := by cases o <;> rfl

/-- The state `u` stands to `s` as a job's end to its beginning where the open time has been written: the directory has it, and the Master Table
is as it was. -/
structure State.Timed (s u : State) (r : Record) (o : Option Nat) : Prop where
  dir : u.dir = s.dirWith r.entry (fun x => x.timed o)
  masters : u.masters = s.masters

theorem State.timed_writeOpenTime {s : State} {j : Job} {h : Handle} {cell : Nat} {r : Record} (hkind : j.kind = .document h cell)
    (hr : s.resolve h = some r) (ms : Nat) : s.Timed (s.writeOpenTime j ms) r (s.openTimeOf ms) := by
  by_cases hcount : 1 ≤ s.dose.count
  · simp only [State.writeOpenTime, hkind, hr, hcount, if_true, State.openTimeOf]
    exact ⟨rfl, rfl⟩
  · simp only [State.writeOpenTime, hkind, hr, hcount, if_false, State.openTimeOf]
    exact ⟨congrArg (fun table => { s.dir with keyTable := table }) (changedAt_id r.entry s.dir.keyTable).symm, rfl⟩

theorem State.writeOpenTime_of_undocumented {s : State} {j : Job} (hkind : ∀ h cell, j.kind ≠ .document h cell) (ms : Nat) :
    s.writeOpenTime j ms = s := by
  unfold State.writeOpenTime
  split
  next h cell heq => exact absurd heq (hkind h cell)
  all_goals rfl

theorem State.timed_none {s : State} (r : Record) : s.Timed s r none :=
  ⟨congrArg (fun table => { s.dir with keyTable := table }) (changedAt_id r.entry s.dir.keyTable).symm, rfl⟩

namespace State.Timed

variable {s u : State} {r : Record} {o : Option Nat} (hu : s.Timed u r o)

include hu in
theorem congr {v : State} (hdir : v.dir = u.dir) (hmasters : v.masters = u.masters) : s.Timed v r o :=
  ⟨hdir.trans hu.dir, hmasters.trans hu.masters⟩

include hu in
theorem master (sl : Slot) : u.master sl = s.master sl := by rw [State.master, State.master, hu.masters]

include hu in
theorem resolve {h : Handle} (hr : s.resolve h = some r) : u.resolve h = some (r.timed o) := by
  obtain ⟨-, hentry, hstamp⟩ := s.resolve_some h r hr
  have hfind : s.dir.keyTable.find? (fun x => decide (x.entry = handleEntry h)) = some r := by
    rw [State.resolve, if_pos hstamp] at hr
    exact hr
  have hstamps : u.dir.stamps = s.dir.stamps := by rw [hu.dir]; rfl
  have htable : u.dir.keyTable = s.dir.keyTable.map (fun x => if x.entry = r.entry then x.timed o else x) := by rw [hu.dir]; rfl
  have hsame : (fun x : Record => decide (x.entry = handleEntry h)) ∘ (fun x => if x.entry = r.entry then x.timed o else x) =
      fun x => decide (x.entry = handleEntry h) := by
    funext x
    by_cases he : x.entry = r.entry <;> simp [he]
  rw [State.resolve, hstamps, if_pos hstamp, htable, List.find?_map, hsame, hfind]
  simp

include hu in
theorem mapRecord_dir (g : Record → Record) : (u.mapRecord r.entry g).dir = s.dirWith r.entry (fun x => g (x.timed o)) := by
  have h : (u.mapRecord r.entry g).dir = { u.dir with keyTable := changedAt r.entry g u.dir.keyTable } := rfl
  rw [h, hu.dir]
  exact congrArg (fun table => { s.dir with keyTable := table }) (changedAt_changedAt (fun x => x.timed_entry o) g s.dir.keyTable)

include hu in
theorem othersSettled (sl : Slot) : u.othersSettled sl r.entry = s.othersSettled sl r.entry := by
  have htable : u.dir.keyTable = changedAt r.entry (fun x => x.timed o) s.dir.keyTable := by rw [hu.dir]; rfl
  rw [State.othersSettled, State.othersSettled, htable]
  refine decide_eq_decide.mpr ⟨fun h x hx hsl hne => h x (List.mem_map.mpr ⟨x, hx, if_neg hne⟩) hsl hne, fun h y hy hsl hne => ?_⟩
  obtain ⟨x, hx, rfl⟩ := List.mem_map.mp hy
  by_cases he : x.entry = r.entry
  · rw [if_pos he, Record.timed_entry] at hne
    exact absurd he hne
  · rw [if_neg he] at hsl ⊢
    exact h x hx hsl he

include hu in
/-- A deletion takes the open time with the record. -/
theorem deleteRecord (c : CellState) :
    (u.deleteRecord (r.timed o) (some c)).dir = (s.afterDeletion r (fun m => m.set r.cell c)).dir ∧
      (u.deleteRecord (r.timed o) (some c)).masters = (s.afterDeletion r (fun m => m.set r.cell c)).masters := by
  have htable : u.dir.keyTable = changedAt r.entry (fun x => x.timed o) s.dir.keyTable := by rw [hu.dir]; rfl
  have hstamps : u.dir.stamps = s.dir.stamps := by rw [hu.dir]; rfl
  have hfree : u.dir.freeList = s.dir.freeList := by rw [hu.dir]; rfl
  rw [State.deleteRecord_some]
  simp only [State.afterDeletion, Record.timed_entry, Record.timed_slot, Record.timed_cell, hu.othersSettled, hu.masters, hu.master,
    htable, hstamps, hfree, filter_changedAt fun x => x.timed_entry o, and_self]

end State.Timed

/-! ## Outcomes at the owners (R48, R97, R116) -/

/-- The state `u` stands to `s` as the hand-over of a job's outcome to the job's end: nothing of the owners has changed but for the open time. -/
structure State.HandsOver (s u : State) (j : Job) (o : Option Nat) : Prop where
  timed : ∀ h cell r, j.kind = .document h cell → s.resolve h = some r → s.Timed u r o
  dir : (∀ h cell, j.kind ≠ .document h cell) → u.dir = s.dir
  masters : u.masters = s.masters

theorem State.handsOver_self (s : State) (j : Job) : s.HandsOver s j none := ⟨fun _ _ _ _ _ => State.timed_none _, fun _ => rfl, rfl⟩

theorem State.handsOver_writeOpenTime (s : State) (j : Job) (ms : Nat) : s.HandsOver (s.writeOpenTime j ms) j (s.openTimeOf ms) := by
  obtain ⟨-, -, -, -, hmasters, -⟩ := s.writeOpenTime_keeps j ms
  exact ⟨fun h cell r hkind hr => State.timed_writeOpenTime hkind hr ms,
    fun hkind => by rw [State.writeOpenTime_of_undocumented hkind], hmasters⟩

theorem State.HandsOver.congr {s u v : State} {j : Job} {o : Option Nat} (h : s.HandsOver u j o) (hdir : v.dir = u.dir)
    (hmasters : v.masters = u.masters) : s.HandsOver v j o :=
  ⟨fun k cell r hkind hr => (h.timed k cell r hkind hr).congr hdir hmasters, fun hkind => hdir.trans (h.dir hkind), hmasters.trans h.masters⟩

theorem State.HandsOver.master {s u : State} {j : Job} {o : Option Nat} (h : s.HandsOver u j o) (sl : Slot) : u.master sl = s.master sl := by
  rw [State.master, State.master, h.masters]

section
variable {s u : State} {j : Job}

/-- The record exposed, its cell marked and the settle test made. -/
theorem State.Timed.recordExposed {r : Record} {ms : Nat} {h : Handle} (hu : s.Timed u r (some ms)) (hr : s.resolve h = some r) :
    (u.recordExposed h).dir = s.dirWith r.entry (fun x => { x with
        state := if x.retirePending then .withdrawn else .exposed, retirePending := false, bank := none, openTime := some ms }) ∧
      (u.recordExposed h).masters =
        s.masters.set r.slot ((s.master r.slot).afterChange (fun m => m.set r.cell .exposed) (s.othersSettled r.slot r.entry)) := by
  simp only [State.recordExposed, hu.resolve hr, Record.timed_entry, Record.timed_slot, Record.timed_cell]
  rw [State.markCell_advance_settleTest, State.settledCondition_mapRecord (fun x _ _ => by cases x.retirePending <;> simp), hu.othersSettled]
  refine ⟨hu.mapRecord_dir _, ?_⟩
  have hmaster : ∀ f, (u.mapRecord r.entry f).master r.slot = s.master r.slot := fun f => hu.master r.slot
  rw [hmaster]
  exact congrArg (fun v : Vector Master 6 => v.set r.slot _) hu.masters

/-- The record spoiled: deleted if it is retire-pending, or else SPOILED on a VOID cell of a master that does not settle. -/
theorem State.Timed.recordSpoiled {r : Record} {ms : Nat} {h : Handle} (hu : s.Timed u r (some ms)) (hr : s.resolve h = some r) :
    (r.retirePending = true → (u.recordSpoiled h).dir = (s.afterDeletion r (fun m => m.set r.cell .void)).dir ∧
        (u.recordSpoiled h).masters = (s.afterDeletion r (fun m => m.set r.cell .void)).masters) ∧
      (r.retirePending = false →
        (u.recordSpoiled h).dir = s.dirWith r.entry (fun x => { x with state := .spoiled, bank := none, openTime := some ms }) ∧
        (u.recordSpoiled h).masters = s.masters.set r.slot ((s.master r.slot).afterChange (fun m => m.set r.cell .void) false)) := by
  simp only [State.recordSpoiled, hu.resolve hr, Record.timed_entry, Record.timed_slot, Record.timed_cell, Record.timed_retirePending]
  refine ⟨fun hpending => ?_, fun hpending => ?_⟩
  · rw [if_pos hpending]
    exact hu.deleteRecord .void
  · rw [if_neg (Bool.eq_false_iff.mp hpending), State.markCell_advance_settleTest]
    have hunsettled : (u.mapRecord r.entry (fun x => { x with state := .spoiled, bank := none })).settledCondition r.slot = false := by
      rw [State.settledCondition_eq, decide_eq_false_iff_not]
      obtain ⟨hmem, -⟩ := u.resolve_some h _ (hu.resolve hr)
      intro hall
      have hspoiled := hall { r.timed (some ms) with state := .spoiled, bank := none }
        (List.mem_map.mpr ⟨_, hmem, if_pos (Record.timed_entry r _)⟩) (Record.timed_slot r _)
      simp at hspoiled
    rw [hunsettled]
    refine ⟨hu.mapRecord_dir _, ?_⟩
    have hmaster : ∀ f, (u.mapRecord r.entry f).master r.slot = s.master r.slot := fun f => hu.master r.slot
    rw [hmaster]
    exact congrArg (fun v : Vector Master 6 => v.set r.slot _) hu.masters

/-- The outcome exposed at the owners of every kind of job. -/
theorem State.exposedAs_ownersExposed {ms : Nat} (hu : s.HandsOver u j (some ms)) (hpanel : u.panel = (s.freeBank j.bank).panel) :
    s.exposedAs (u.ownersExposed j) j ms := by
  obtain ⟨-, -, -, -, -, -, -, hkeeps, -⟩ := u.ownersExposed_keeps j
  refine ⟨hkeeps.trans hpanel, ?_⟩
  obtain ⟨id, kind, sl, target, limitMs, fog, arrived, ready⟩ := j
  cases kind with
  | document h cell => exact fun r hr => (hu.timed h cell r rfl hr).recordExposed hr
  | index part =>
    refine ⟨hu.dir nofun, ?_⟩
    simp only [State.ownersExposed, State.exposeIndex, State.mapMaster, State.setMaster, hu.masters, hu.master]
    refine congrArg (fun m => s.masters.set sl m) ?_
    cases hfields : (s.master sl).fields <;> simp [Master.mapFields, hfields]
  | title =>
    refine ⟨hu.dir nofun, ?_⟩
    simp only [State.ownersExposed, State.exposeTitle, State.mapMaster, State.setMaster, hu.masters, hu.master]

end

end Sys2Proof.Machine

/-! Outcomes spoiled and returned at the owners of a job (R14, R48, R97, R116). -/

namespace Sys2Proof.Machine

section
variable {s u : State} {j : Job}

/-- The outcome spoiled at the owners of a document job. -/
theorem State.spoiledAs_ownersSpoiled {ms : Nat} {h : Handle} {cell : Nat} (hu : s.HandsOver u j (some ms))
    (hpanel : u.panel = (s.freeBank j.bank).panel) (hkind : j.kind = .document h cell) : s.spoiledAs (u.ownersSpoiled j) j.bank h ms := by
  have howners : u.ownersSpoiled j = u.recordSpoiled h := by simp only [State.ownersSpoiled, hkind]
  obtain ⟨-, -, -, -, -, -, -, hkeeps, -⟩ := u.recordSpoiled_keeps h
  rw [howners]
  exact ⟨hkeeps.trans hpanel, fun r hr => (hu.timed h cell r hkind hr).recordSpoiled hr⟩

/-- A bank's slot once no job is left is its binding's (R92, R97). -/
theorem State.bankSlot_of_jobless {v : State} (hjob : v.seq.job = none) (hdir : v.dir = s.dir) (id : BankId) :
    v.bankSlot id = (v.bank id).binding.bind s.bindingSlot := by
  have hresolve : v.resolve = s.resolve := funext fun h => by rw [State.resolve, State.resolve, hdir]
  have hslot : v.bindingSlot = s.bindingSlot := funext fun b => by cases b <;> simp only [State.bindingSlot, hresolve]
  rw [State.bankSlot, hjob, hslot]
  cases (v.bank id).state <;> rfl

/-- A master of a live state failed by a spoiled index part or title (R14). -/
theorem State.spoilsMaster_spoilMaster {v : State} {cells : Format → List CellState → List CellState} (why : FailureReason)
    (hdir : v.dir = s.dir) (hpanel : v.panel = (s.freeBank j.bank).panel) (hjob : v.seq.job = none)
    (hmaster : v.masters = s.masters.set j.slot { s.master j.slot with
      fields := (s.master j.slot).fields.map (fun f => { f with cells := cells f.format f.cells }) })
    (hlive : (s.master j.slot).state.live = true) : s.spoilsMaster (v.spoilMaster j.slot why) j cells why := by
  have hown : v.master j.slot = { s.master j.slot with
      fields := (s.master j.slot).fields.map (fun f => { f with cells := cells f.format f.cells }) } := by
    rw [State.master, hmaster]
    exact Vector.getElem_set_self _
  have hspoil : v.spoilMaster j.slot why = (v.releaseBanksOf j.slot).failMaster j.slot why :=
    if_pos (by rw [hown]; exact hlive)
  obtain ⟨-, -, -, -, hmasters, -, -, hkeepsDir, -⟩ := v.releaseBanksOf_keeps j.slot
  obtain ⟨hbanks, hqueue, -⟩ := v.banksLetGo_releaseBanksOf j.slot
  have hslot : ∀ id, v.bankSlot id = (v.bank id).binding.bind s.bindingSlot := State.bankSlot_of_jobless hjob hdir
  have hsame : v.bank j.bank = { s.bank j.bank with state := .free, binding := none } :=
    (State.bank_congr hpanel _).trans (s.freeBank_bank_same j.bank)
  have hother : ∀ id, id ≠ j.bank → v.bank id = s.bank id := fun id hne => (State.bank_congr hpanel _).trans (s.freeBank_bank_ne hne)
  rw [hspoil]
  refine ⟨hkeepsDir.trans hdir, ?_, ?_, fun hit hhit => ⟨fun id hne => ?_, ?_⟩⟩
  · have hrelease : (v.releaseBanksOf j.slot).master j.slot = v.master j.slot := by rw [State.master, State.master, hmasters]
    simp only [State.failMaster, State.mapMaster, State.setMaster, hrelease, hmasters, hown, hmaster, Master.mapFields, Option.map_map]
    exact Vector.set_set ..
  · refine (hbanks j.bank).trans ((if_neg ?_).trans hsame)
    dsimp only
    rw [hslot, hsame]
    exact Bool.false_ne_true
  · refine (hbanks id).trans ?_
    simp only [hslot, hother id hne, hhit]
  · refine hqueue.trans ?_
    rw [hpanel, State.freeBank_queue, List.filter_filter]
    refine List.filter_congr fun id _ => ?_
    by_cases hne : id = j.bank
    · simp [hne, hslot, hsame]
    · simp [hne, hslot, hother id hne, hhit]

theorem State.spoilsMaster_ownersSpoiled_index {part : Nat} (hdir : u.dir = s.dir) (hmasters : u.masters = s.masters)
    (hpanel : u.panel = (s.freeBank j.bank).panel) (hjob : u.seq.job = none) (hkind : j.kind = .index part)
    (hlive : (s.master j.slot).state.live = true) :
    s.spoilsMaster (u.ownersSpoiled j) j (fun f m => m.set (f.docCells + part) .void) .indexSpoiled := by
  have hmaster : u.master j.slot = s.master j.slot := by rw [State.master, State.master, hmasters]
  have hmoves : (s.master j.slot).state.mapMoves = true := by
    revert hlive
    cases (s.master j.slot).state <;> decide
  simp only [State.ownersSpoiled, hkind]
  obtain ⟨-, -, -, -, -, -, hd, -, hp, hseq, -⟩ :=
    u.markCell_keeps j.slot (((u.master j.slot).fields.map (fun f => f.format.indexCell part)).getD 0) .void
  refine State.spoilsMaster_spoilMaster _ (hd.trans hdir) (hp.trans hpanel) (by rw [hseq]; exact hjob) ?_ hlive
  simp only [State.markCell, hmoves, if_true, State.mapMaster, State.setMaster, hmasters, hmaster]
  refine congrArg (fun m => s.masters.set j.slot m) ?_
  cases hfields : (s.master j.slot).fields <;> simp [Master.mapFields, hfields, Format.indexCell]

theorem State.spoilsMaster_ownersSpoiled_title (hdir : u.dir = s.dir) (hmasters : u.masters = s.masters)
    (hpanel : u.panel = (s.freeBank j.bank).panel) (hjob : u.seq.job = none) (hkind : j.kind = .title)
    (hlive : (s.master j.slot).state.live = true) : s.spoilsMaster (u.ownersSpoiled j) j (fun _ m => m) .titleSpoiled := by
  simp only [State.ownersSpoiled, hkind]
  refine State.spoilsMaster_spoilMaster _ hdir hpanel hjob ?_ hlive
  have hself : ({ s.master j.slot with fields := (s.master j.slot).fields.map (fun f => { f with cells := f.cells }) } : Master) =
      s.master j.slot := by
    cases hfields : (s.master j.slot).fields <;> simp [← hfields]
  rw [hself, hmasters]
  exact (Vector.set_getElem_self (xs := s.masters) _).symm

end

/-! ## The outcome returned -/

/-- Only the job's bank changes. -/
theorem State.ownersReturned_bank_ne (u : State) (j : Job) {id : BankId} (h : id ≠ j.bank) : (u.ownersReturned j).bank id = u.bank id := by
  unfold State.ownersReturned
  split
  · unfold State.recordReturned
    split
    · split
      · rw [State.deleteRecord_some]
        exact u.freeBank_bank_ne h
      · exact State.returnBank_bank_ne _ h
    · exact u.freeBank_bank_ne h
  · exact u.returnBank_bank_ne h
  · exact u.returnBank_bank_ne h

/-- The outcome returned at the owners of every kind of job. -/
theorem State.returnedAs_ownersReturned {s u : State} {j : Job} {o : Option Nat} (hu : s.HandsOver u j o)
    (hbank : ∀ id, u.bank id = s.bank id) (hqueue : u.panel.queue = s.panel.queue) : s.returnedAs (u.ownersReturned j) j o := by
  obtain ⟨id, kind, sl, target, limitMs, fog, arrived, ready⟩ := j
  have hreturn : (u.returnBank id).bank id = { s.bank id with state := .loaded } ∧ (u.returnBank id).panel.queue = id :: s.panel.queue :=
    ⟨(u.returnBank_bank_same id).trans (by rw [hbank]), congrArg (id :: ·) hqueue⟩
  cases kind with
  | document h cell =>
    intro r hr
    have htimed := hu.timed h cell r rfl hr
    have howners : u.recordReturned id h = if r.retirePending = true then (u.freeBank id).deleteRecord (r.timed o) (some .free)
        else (u.mapRecord r.entry (fun x => { x with state := .loaded })).returnBank id := by
      simp only [State.recordReturned, htimed.resolve hr, Record.timed_entry, Record.timed_retirePending]
    simp only [State.ownersReturned, howners]
    refine ⟨fun hpending => ?_, fun hpending => ?_⟩
    · rw [if_pos hpending]
      obtain ⟨hdir, hmasters⟩ := (htimed.congr (v := u.freeBank id) rfl rfl).deleteRecord .free
      refine ⟨hdir, hmasters, ?_⟩
      rw [State.deleteRecord_some]
      exact ⟨(u.freeBank_bank_same id).trans (by rw [hbank]), congrArg _ hqueue⟩
    · rw [if_neg (Bool.eq_false_iff.mp hpending)]
      exact ⟨htimed.mapRecord_dir _, hu.masters, hreturn⟩
  | index part => exact ⟨hu.dir nofun, hu.masters, hreturn⟩
  | title => exact ⟨hu.dir nofun, hu.masters, hreturn⟩

end Sys2Proof.Machine

/-! The ends of jobs: preparations (O47), normal ends (O48), short exposures (O49) and removal ends (O9). -/

namespace Sys2Proof.Machine

/-! ## What an event leaves alone -/

theorem State.pathChangesOnly_trans {s t u : State} (hst : s.pathChangesOnly t) (htu : t.pathChangesOnly u) : s.pathChangesOnly u := by
  unfold State.pathChangesOnly at *
  rw [htu, hst]

theorem State.pathChangesOnly_of_keeps {s t : State}
    (h : t.pending = s.pending ∧ t.pins = s.pins ∧ t.sup = s.sup ∧ t.plates = s.plates ∧ t.releaseQueue = s.releaseQueue ∧
      t.removalReports = s.removalReports ∧ t.raster = s.raster ∧ t.link = s.link ∧ t.answer = s.answer) : s.pathChangesOnly t := by
  obtain ⟨hpending, hpins, hsup, hplates, hrelease, hreports, hraster, hlink, hanswer⟩ := h
  rw [State.pathChangesOnly, ← hpending, ← hpins, ← hsup, ← hplates, ← hrelease, ← hreports, ← hraster, ← hlink, ← hanswer]

theorem State.pathChangesOnly_frame {s t : State} (h : s.pathChangesOnly t) : t.sup = s.sup ∧ t.raster = s.raster := by
  rw [h]
  exact ⟨rfl, rfl⟩

/-- The raster stream goes on after an event of the path as HEADER_EXAMINATION (R93). -/
theorem State.thenExamines_of_pathChangesOnly {s t : State} (hrun : s.sup.phase = .running) (hfits : s.streamFits) (h : s.pathChangesOnly t) :
    t.thenExamines t.streamGo := by
  obtain ⟨hsup, hraster⟩ := State.pathChangesOnly_frame h
  exact t.thenExamines_streamGo (by rw [hsup]; exact hrun)
    (State.streamFits_congr hfits (congrArg _ hraster) (congrArg _ hraster) (congrArg _ hraster))

theorem State.pathChangesOnly_ownersReturned (u : State) (j : Job) : u.pathChangesOnly (u.ownersReturned j) :=
  State.pathChangesOnly_of_keeps (by simp)

/-! ## Preparations (R111, R120) -/

/-- A job in PREPARING returned, before the raster stream goes on. -/
def State.preparedEnd (s : State) (j : Job) (path : PathState) (why : PathFault) : State :=
  (s.abandonPreparation.dropJob path why).ownersReturned j

theorem State.endPreparing_eq (s : State) (j : Job) (path : PathState) (why : PathFault) :
    s.endPreparing j path why = (s.preparedEnd j path why).streamGo := rfl

theorem State.pathChangesOnly_preparedEnd (s : State) (j : Job) (path : PathState) (why : PathFault) :
    s.pathChangesOnly (s.preparedEnd j path why) :=
  State.pathChangesOnly_trans (t := s.abandonPreparation.dropJob path why) rfl (State.pathChangesOnly_ownersReturned _ j)

/-- The ends of a preparation, each with what it does to the motion port and the pins. -/
def State.endsPreparation (s : State) (c : Instr) (path : PathState) (why : PathFault) (motion : MotionPort) (pins : Pins) : Prop :=
  (c = .motionFault ∧ s.motion.port = .moving ∧ path = .faulted ∧ why = .motionFault ∧ pins = s.pins ∧
      motion = { s.motion with port := .idle, target := none, moveTimer := false, turret := none }) ∨
    (c = .moveTimerExpiry ∧ s.motion.port = .moving ∧ s.motion.moveTimer = true ∧ path = .faulted ∧ why = .motionTimeout ∧ pins = s.pins ∧
      motion = { s.motion with port := .idle, target := none, moveTimer := false, turret := none }) ∨
    (c = .panelTimeout ∧ s.seq.panelTimer = true ∧ path = .faulted ∧ why = .panelTimeout ∧ motion = s.motion.abandon ∧
      pins = s.pins) ∨
    (∃ ms, c = .attention ms ∧ s.pins.flush = false ∧ path = .halted ∧ why = .none ∧ motion = s.motion.abandon ∧
      pins = { s.pins with attention := true })

section
variable {s : State} (hrun : s.sup.phase = .running)

include hrun in
theorem exec_attention (ms : OpenMs) (hflush : s.pins.flush = false) :
    exec (.attention ms) s = .next (({ s with pins := { s.pins with attention := true } } : State).attentionPath ms.val) :=
  congrArg Host.Outcome.next ((State.whileRunning_of_running { s with pins := { s.pins with attention := true } } _ hrun).trans
    (if_neg (Bool.eq_false_iff.mp hflush)))

include hrun in
theorem exec_motionFault_of_moving (hport : s.motion.port = .moving) :
    exec .motionFault s = .next (({ s with motion := s.motion.finish none } : State).preparationFault .motionFault) :=
  (exec_of_whileRunning hrun rfl).trans (by simp only [hport])

include hrun in
theorem exec_moveTimerExpiry_of_moving (hport : s.motion.port = .moving) (htimer : s.motion.moveTimer = true) :
    exec .moveTimerExpiry s = .next (({ s with motion := s.motion.finish none } : State).preparationFault .motionTimeout) :=
  (exec_of_whileRunning hrun rfl).trans (by simp only [hport, htimer, Bool.true_eq_false, if_false])

theorem State.preparationFault_of_plate {j : Job} (why : PathFault) (hpath : s.seq.path = .preparing) (hjob : s.seq.job = some j)
    (hplate : s.jobPlateGone j = false) : s.preparationFault why = s.endPreparing j .faulted why := by
  simp only [State.preparationFault, hpath, hjob, hplate, Bool.false_eq_true, if_false]

theorem State.preparationFault_of_gone {j : Job} (why : PathFault) (hpath : s.seq.path = .preparing) (hjob : s.seq.job = some j)
    (hplate : s.jobPlateGone j = true) : s.preparationFault why = s.endRemoved j := by
  simp only [State.preparationFault, hpath, hjob, hplate, if_true]

/-- ATTENTION on a path with a job. -/
theorem State.attentionPath_of_preparing {j : Job} (ms : Nat) (hpath : s.seq.path = .preparing) (hjob : s.seq.job = some j) :
    s.attentionPath ms = if s.jobPlateGone j = true then s.endRemoved j else s.endPreparing j .halted .none := by
  simp only [State.attentionPath, hpath, hjob]

theorem State.attentionPath_of_exposing {j : Job} (ms : Nat) (hpath : s.seq.path = .exposing) (hjob : s.seq.job = some j) :
    s.attentionPath ms = if s.jobPlateGone j = true then s.endRemoved j else s.endShort j ms .halted .none .halted .none := by
  simp only [State.attentionPath, hpath, hjob]

/-- Every end of a preparation, as one end over the motion port that it finds. -/
theorem exec_of_endsPreparation {j : Job} {c : Instr} {path : PathState} {why : PathFault} {motion : MotionPort} {pins : Pins}
    (hrun : s.sup.phase = .running) (hpath : s.seq.path = .preparing) (hjob : s.seq.job = some j) (hplate : s.jobPlateGone j = false)
    (hc : s.endsPreparation c path why motion pins) : ∃ m, m.abandon = motion ∧
      exec c s = .next (({ s with pins := pins, motion := m } : State).endPreparing j path why) := by
  rcases hc with ⟨rfl, hport, rfl, rfl, rfl, rfl⟩ | ⟨rfl, hport, htimer, rfl, rfl, rfl, rfl⟩ | ⟨rfl, htimer, rfl, rfl, rfl, rfl⟩ |
      ⟨ms, rfl, hflush, rfl, rfl, rfl, rfl⟩
  · exact ⟨s.motion.finish none, rfl, (exec_motionFault_of_moving hrun hport).trans (congrArg Host.Outcome.next
      (State.preparationFault_of_plate (s := { s with motion := s.motion.finish none }) _ hpath hjob hplate))⟩
  · exact ⟨s.motion.finish none, rfl, (exec_moveTimerExpiry_of_moving hrun hport htimer).trans (congrArg Host.Outcome.next
      (State.preparationFault_of_plate (s := { s with motion := s.motion.finish none }) _ hpath hjob hplate))⟩
  · exact ⟨s.motion, rfl, (exec_panelTimeout hrun htimer).trans (congrArg Host.Outcome.next
      (State.preparationFault_of_plate _ hpath hjob hplate))⟩
  · exact ⟨s.motion, rfl, (exec_attention hrun ms hflush).trans (congrArg Host.Outcome.next
      ((State.attentionPath_of_preparing (s := { s with pins := { s.pins with attention := true } }) _ hpath hjob).trans
        (if_neg (Bool.eq_false_iff.mp hplate))))⟩

end

/-- Settles O47. -/
theorem preparationsAreEnded : Obligations.PreparationsAreEnded := by
  intro s hrun
  refine ⟨fun ms hflush => ⟨fun hpath => ?_, fun hpath => ?_⟩, fun htimer => ?_,
    fun j c path why motion pins hpath hjob hplate hfits hc => ?_⟩
  · exact (exec_attention hrun ms hflush).trans (by simp only [State.attentionPath, hpath])
  · rcases hpath with hpath | hpath <;> exact (exec_attention hrun ms hflush).trans (by simp only [State.attentionPath, hpath])
  · refine (exec_of_whileRunning hrun rfl).trans ?_
    exact congrArg Host.Outcome.next (if_neg (Bool.eq_false_iff.mp htimer))
  · obtain ⟨m, rfl, hexec⟩ := exec_of_endsPreparation hrun hpath hjob hplate hc
    let b : State := { s with pins := pins, motion := m }
    have honly : ({ s with pins := pins } : State).pathChangesOnly (b.preparedEnd j path why) :=
      State.pathChangesOnly_trans (t := b) rfl (b.pathChangesOnly_preparedEnd j path why)
    have hlines : (b.preparedEnd j path why).panel.lines = s.panel.abandonShow.lines :=
      State.ownersReturned_lines (b.abandonPreparation.dropJob path why) j
    obtain ⟨-, -, -, -, -, -, -, hseq, hmotion, hdose, -⟩ := (b.abandonPreparation.dropJob path why).ownersReturned_keeps j
    obtain ⟨hselected, hawaiting, hstrobing, hrisen⟩ := (PanelStore.lines_eq_iff ..).mp hlines
    exact ⟨_, _, hexec, State.thenExamines_of_pathChangesOnly (s := { s with pins := pins }) hrun hfits honly, hseq, hmotion, hdose,
      State.returnedAs_ownersReturned ((s.handsOver_self j).congr rfl rfl) (fun id => by cases id <;> rfl) rfl,
      fun id hne => (State.ownersReturned_bank_ne _ j hne).trans (by cases id <;> rfl), hselected, hawaiting, hstrobing, hrisen, honly⟩

/-! ## Exposures (R113 to R118) -/

/-- A returned end of an exposure, before the raster stream goes on. -/
def State.returnedEnd (s : State) (j : Job) (ms : Nat) (path : PathState) (why : PathFault) : State :=
  ((s.writeOpenTime j ms).closeShutter.dropJob path why).ownersReturned j

/-- A spoiled end. -/
def State.spoiledEnd (s : State) (j : Job) (ms : Nat) (path : PathState) (why : PathFault) : State :=
  (((s.writeOpenTime j ms).closeShutter.dropJob path why).freeBank j.bank).ownersSpoiled j

/-- A normal end, before the raster stream goes on and a job is taken. -/
def State.exposedEnd (s : State) (j : Job) (ms : Nat) : State :=
  let s1 := s.writeOpenTime j ms
  let s2 : State := { s1 with dose := s1.dose.updateRate j.target ms }
  ((s2.closeShutter.dropJob (if s.seq.haltPending then .halted else .idle) .none).freeBank j.bank).ownersExposed j

section
variable (s : State) (j : Job) (ms : Nat) (path : PathState) (why : PathFault)

theorem State.endReturned_eq : s.endReturned j ms path why = (s.returnedEnd j ms path why).streamGo := rfl

theorem State.endSpoiled_eq : s.endSpoiled j ms path why = (s.spoiledEnd j ms path why).streamGo := rfl

theorem State.endExposed_eq : s.endExposed j ms = (s.exposedEnd j ms).streamGo.takeJob := rfl

theorem State.pathChangesOnly_returnedEnd : s.pathChangesOnly (s.returnedEnd j ms path why) :=
  State.pathChangesOnly_of_keeps (by simp [State.returnedEnd])

theorem State.pathChangesOnly_spoiledEnd : s.pathChangesOnly (s.spoiledEnd j ms path why) :=
  State.pathChangesOnly_of_keeps (by simp [State.spoiledEnd])

theorem State.pathChangesOnly_exposedEnd : s.pathChangesOnly (s.exposedEnd j ms) :=
  State.pathChangesOnly_of_keeps (by simp [State.exposedEnd])

end

section
variable {s : State} {j : Job} (ms : Nat) (path : PathState) (why : PathFault)

theorem State.returnedEnd_path (hpath : s.seq.path = .exposing) :
    (s.returnedEnd j ms path why).seq = .stopped path why ∧ (s.returnedEnd j ms path why).dose = s.dose.close ∧
      (s.returnedEnd j ms path why).panel.lines = s.panel.lines ∧ (s.returnedEnd j ms path why).motion = s.motion := by
  simp [State.returnedEnd, State.closeShutter_dose, hpath]

theorem State.spoiledEnd_path (hpath : s.seq.path = .exposing) :
    (s.spoiledEnd j ms path why).seq = .stopped path why ∧ (s.spoiledEnd j ms path why).dose = s.dose.close ∧
      (s.spoiledEnd j ms path why).panel.lines = s.panel.lines ∧ (s.spoiledEnd j ms path why).motion = s.motion := by
  simp [State.spoiledEnd, State.closeShutter_dose, hpath]

theorem State.exposedEnd_path (hpath : s.seq.path = .exposing) :
    (s.exposedEnd j ms).seq = .stopped (if s.seq.haltPending then .halted else .idle) .none ∧
      (s.exposedEnd j ms).dose = (s.dose.updateRate j.target ms).close ∧ (s.exposedEnd j ms).motion = s.motion := by
  simp [State.exposedEnd, State.closeShutter_dose, hpath]

/-- The state in which a short exposure's outcome is handed on. -/
theorem State.handsOver_closed : s.HandsOver ((s.writeOpenTime j ms).closeShutter.dropJob path why) j (s.openTimeOf ms) :=
  (s.handsOver_writeOpenTime j ms).congr (by simp) (by simp)

theorem State.panel_closed : ((s.writeOpenTime j ms).closeShutter.dropJob path why).panel = s.panel := by simp

theorem State.returnedAs_returnedEnd : s.returnedAs (s.returnedEnd j ms path why) j (s.openTimeOf ms) :=
  State.returnedAs_ownersReturned (State.handsOver_closed ms path why) (State.bank_congr (State.panel_closed ms path why))
    (congrArg _ (State.panel_closed ms path why))

theorem State.returnedEnd_bank_ne {id : BankId} (h : id ≠ j.bank) : (s.returnedEnd j ms path why).bank id = s.bank id :=
  (State.ownersReturned_bank_ne _ j h).trans (State.bank_congr (State.panel_closed ms path why) id)

theorem State.panel_closed_freed : (((s.writeOpenTime j ms).closeShutter.dropJob path why).freeBank j.bank).panel = (s.freeBank j.bank).panel := by
  have h : ((s.writeOpenTime j ms).closeShutter.dropJob path why).panel = s.panel := State.panel_closed ms path why
  rw [State.freeBank, State.freeBank, State.bank, State.bank, h]

theorem State.spoiledAs_spoiledEnd {h : Handle} {cell : Nat} (hcount : 1 ≤ s.dose.count) (hkind : j.kind = .document h cell) :
    s.spoiledAs (s.spoiledEnd j ms path why) j.bank h ms := by
  have hover : s.HandsOver ((s.writeOpenTime j ms).closeShutter.dropJob path why) j (some ms) :=
    (if_pos hcount : s.openTimeOf ms = some ms) ▸ State.handsOver_closed ms path why
  exact State.spoiledAs_ownersSpoiled (hover.congr rfl rfl) (State.panel_closed_freed ms path why) hkind

theorem State.exposedAs_exposedEnd (hcount : 1 ≤ s.dose.count) : s.exposedAs (s.exposedEnd j ms) j ms := by
  have htime : s.openTimeOf ms = some ms := if_pos hcount
  have hover : s.HandsOver (s.writeOpenTime j ms) j (some ms) := htime ▸ s.handsOver_writeOpenTime j ms
  refine State.exposedAs_ownersExposed (hover.congr (by simp) (by simp)) ?_
  have h : (({ s.writeOpenTime j ms with dose := (s.writeOpenTime j ms).dose.updateRate j.target ms } : State).closeShutter.dropJob
      (if s.seq.haltPending then .halted else .idle) .none).panel = s.panel := by simp
  rw [State.freeBank, State.freeBank, State.bank, State.bank, h]

end

/-! ## The photocell (R130, R115) -/

theorem DoseUnit.updateRate_eq (d : DoseUnit) (target ms : Nat) :
    d.updateRate target ms = { d with rate := if 10 ≤ ms then BitVec.ofNat 16 (min 65535 (target * 100 / ms)) else d.rate } := by
  unfold DoseUnit.updateRate Config.rateUpdateMs
  split <;> rfl

/-- Settles O48. -/
theorem pulsesAreCountedToTheTarget : Obligations.PulsesAreCountedToTheTarget := by
  intro ms s hrun
  have hpulse : exec (.photoPulse ms) s = .next (s.pulse ms.val) :=
    congrArg Host.Outcome.next (s.whileRunning_of_running _ hrun)
  refine ⟨fun hidle => ?_, fun hgating => ?_, fun j hint hpath hjob => ?_⟩
  · rw [hpulse]
    simp only [State.pulse, hidle, DoseUnit.countPulse]
  · rw [hpulse]
    simp only [State.pulse, hgating, DoseUnit.countPulse]
  have hcounted : s.dose.countPulse = { s.dose with count := s.dose.count + 1, darkWindow := .spent } := by
    simp only [DoseUnit.countPulse, hint]
  have hpulsed : s.pulse ms.val = if j.target ≤ s.dose.count + 1 then s.reachTarget j ms.val else { s with dose := s.dose.countPulse } := by
    simp only [State.pulse, hint, hpath, hjob]
  have hreaches : exec (.countReachesT ms) s = .next (if j.target ≤ s.dose.count + 1 then s.reachTarget j ms.val else s) :=
    (exec_of_whileRunning hrun rfl).trans (by simp only [hint, hpath, hjob])
  rw [hpulse, hreaches, hpulsed, hcounted]
  refine ⟨fun hshort => ?_, fun hreach hplate hfits c hc => ?_⟩
  · rw [if_neg (Nat.not_le.mpr hshort), if_neg (Nat.not_le.mpr hshort)]
    exact ⟨rfl, rfl⟩
  let b : State := { s with dose := { s.dose with count := s.dose.count + 1, darkWindow := .spent } }
  have hexec : exec c s = .next (b.exposedEnd j ms.val).streamGo.takeJob := by
    have hend : s.reachTarget j ms.val = b.endExposed j ms.val := by
      rw [State.reachTarget, if_neg (Bool.eq_false_iff.mp hplate), hcounted]
    rcases hc with rfl | rfl
    · rw [hpulse, hpulsed, if_pos hreach, hend]
      rfl
    · rw [hreaches, if_pos hreach, hend]
      rfl
  have honly : s.pathChangesOnly (b.exposedEnd j ms.val) := State.pathChangesOnly_trans (t := b) rfl (b.pathChangesOnly_exposedEnd j ms.val)
  obtain ⟨hseq, hdose, hmotion⟩ := State.exposedEnd_path (s := b) (j := j) ms.val hpath
  have hphase : (b.exposedEnd j ms.val).streamGo.sup.phase = .running := by
    rw [(State.streamGo_latches _).phase, (State.pathChangesOnly_frame honly).1, hrun]
  have hupdated : b.dose.updateRate j.target ms.val = { ({ s.dose with count := s.dose.count + 1 } : DoseUnit) with
      darkWindow := .spent
      rate := if 10 ≤ ms.val then BitVec.ofNat 16 (min 65535 (j.target * 100 / ms.val)) else s.dose.rate } :=
    b.dose.updateRate_eq j.target ms.val
  obtain ⟨hcloses, hrate⟩ := DoseUnit.closesTo_close ({ s.dose with count := s.dose.count + 1 } : DoseUnit) .spent
    (if 10 ≤ ms.val then BitVec.ofNat 16 (min 65535 (j.target * 100 / ms.val)) else s.dose.rate)
  rw [hupdated] at hdose
  exact ⟨_, _, _, hexec, State.thenExamines_of_pathChangesOnly hrun hfits honly, State.thenTakes_takeJob _ hphase, hseq,
    State.exposedAs_exposedEnd (s := b) ms.val (Nat.le_add_left 1 _), hdose ▸ hcloses, by rw [hdose]; exact hrate, hmotion, honly⟩

/-! ## Exposures that end short (R113, R116, R117, R118) -/

/-- The judgement of a short exposure. -/
theorem State.marked_iff (s : State) (j : Job) : s.marked j = true ↔ j.fogLimit ≤ s.dose.count ∧ 1 ≤ s.dose.count := decide_eq_true_iff

/-- What a spoiled end is to every kind of job. -/
theorem State.spoiledEnd_owners {s : State} {j : Job} (ms : Nat) (path : PathState) (why : PathFault) (hcount : 1 ≤ s.dose.count) :
    (∀ h cell, j.kind = .document h cell → s.spoiledAs (s.spoiledEnd j ms path why) j.bank h ms) ∧
      (∀ part, j.kind = .index part → (s.master j.slot).state.live = true →
        s.spoilsMaster (s.spoiledEnd j ms path why) j (fun f m => m.set (f.docCells + part) .void) .indexSpoiled) ∧
      (j.kind = .title → (s.master j.slot).state.live = true →
        s.spoilsMaster (s.spoiledEnd j ms path why) j (fun _ m => m) .titleSpoiled) := by
  have hpanel : (((s.writeOpenTime j ms).closeShutter.dropJob path why).freeBank j.bank).panel = (s.freeBank j.bank).panel :=
    State.panel_closed_freed ms path why
  have hover : s.HandsOver (((s.writeOpenTime j ms).closeShutter.dropJob path why).freeBank j.bank) j (s.openTimeOf ms) :=
    (State.handsOver_closed ms path why).congr rfl rfl
  refine ⟨fun h cell hkind => State.spoiledAs_spoiledEnd ms path why hcount hkind, fun part hkind hlive => ?_, fun hkind hlive => ?_⟩
  · exact State.spoilsMaster_ownersSpoiled_index (hover.dir fun h cell => by simp [hkind]) hover.masters hpanel rfl hkind hlive
  · exact State.spoilsMaster_ownersSpoiled_title (hover.dir fun h cell => by simp [hkind]) hover.masters hpanel rfl hkind hlive

/-- Settles O49. -/
theorem shortExposuresAreJudged : Obligations.ShortExposuresAreJudged := by
  intro s j hrun hpath hjob hplate hfits
  obtain ⟨hcloses, hrate⟩ := DoseUnit.closesTo_close s.dose s.dose.darkWindow s.dose.rate
  refine ⟨fun c ms spoiledPath spoiledWhy returnedPath returnedWhy hc => ?_, fun hdark hcount => ?_, fun hdark => ?_, fun htimer => ?_⟩
  · obtain ⟨pins, hpins, hexec⟩ : ∃ pins, pins = (if c = .limitExpiry then s.pins else { s.pins with attention := true }) ∧
        exec c s = .next (({ s with pins := pins } : State).endShort j ms spoiledPath spoiledWhy returnedPath returnedWhy) := by
      rcases hc with ⟨rfl, htimer, rfl, rfl, rfl, rfl, rfl⟩ | ⟨openMs, rfl, hflush, rfl, rfl, rfl, rfl, rfl⟩
      · refine ⟨s.pins, (if_pos rfl).symm, (exec_of_whileRunning hrun rfl).trans (congrArg Host.Outcome.next ?_)⟩
        simp only [htimer, hpath, hjob]
        exact if_neg (Bool.eq_false_iff.mp hplate)
      · exact ⟨_, (if_neg nofun).symm, (exec_attention hrun openMs hflush).trans (congrArg Host.Outcome.next
          ((State.attentionPath_of_exposing (s := { s with pins := { s.pins with attention := true } }) _ hpath hjob).trans
            (if_neg (Bool.eq_false_iff.mp hplate))))⟩
    rw [← hpins]
    let b : State := { s with pins := pins }
    by_cases hmarked : b.marked j = true
    · have honly := b.pathChangesOnly_spoiledEnd j ms spoiledPath spoiledWhy
      obtain ⟨hseq, hdose, hlines, hmotion⟩ := State.spoiledEnd_path (s := b) (j := j) ms spoiledPath spoiledWhy hpath
      obtain ⟨hselected, hawaiting, hstrobing, hrisen⟩ := (PanelStore.lines_eq_iff ..).mp hlines
      have hcount := (b.marked_iff j).mp hmarked
      refine ⟨b.spoiledEnd j ms spoiledPath spoiledWhy, _, hexec.trans (congrArg Host.Outcome.next (if_pos hmarked)),
        State.thenExamines_of_pathChangesOnly (s := b) hrun hfits honly, honly, hdose ▸ hcloses, by rw [hdose]; exact hrate, hmotion, hrisen,
        hselected, hawaiting, hstrobing, fun _ => ⟨hseq, State.spoiledEnd_owners (s := b) ms _ _ hcount.2⟩, fun h => ?_⟩
      have hcount : j.fogLimit ≤ s.dose.count ∧ 1 ≤ s.dose.count := hcount
      omega
    · have honly := b.pathChangesOnly_returnedEnd j ms returnedPath returnedWhy
      obtain ⟨hseq, hdose, hlines, hmotion⟩ := State.returnedEnd_path (s := b) (j := j) ms returnedPath returnedWhy hpath
      obtain ⟨hselected, hawaiting, hstrobing, hrisen⟩ := (PanelStore.lines_eq_iff ..).mp hlines
      exact ⟨b.returnedEnd j ms returnedPath returnedWhy, _, hexec.trans (congrArg Host.Outcome.next (if_neg hmarked)),
        State.thenExamines_of_pathChangesOnly (s := b) hrun hfits honly, honly, hdose ▸ hcloses, by rw [hdose]; exact hrate, hmotion, hrisen,
        hselected, hawaiting, hstrobing, fun h => absurd ((b.marked_iff j).mpr h) hmarked,
        fun _ => ⟨hseq, State.returnedAs_returnedEnd (s := b) ms _ _, fun id hne => State.returnedEnd_bank_ne (s := b) ms _ _ hne⟩⟩
  · have hexec : exec .lampDarkExpiry s = .next (s.returnedEnd j 0 .faulted .lampDark).streamGo := by
      refine (exec_of_whileRunning hrun rfl).trans (congrArg Host.Outcome.next ?_)
      simp only [hdark, hpath, hjob]
      exact if_neg (Bool.eq_false_iff.mp hplate)
    have honly := s.pathChangesOnly_returnedEnd j 0 .faulted .lampDark
    obtain ⟨hseq, hdose, hlines, hmotion⟩ := State.returnedEnd_path (j := j) 0 .faulted .lampDark hpath
    obtain ⟨hselected, hawaiting, hstrobing, hrisen⟩ := (PanelStore.lines_eq_iff ..).mp hlines
    have htime : s.openTimeOf 0 = none := if_neg (by omega)
    exact ⟨_, _, hexec, State.thenExamines_of_pathChangesOnly hrun hfits honly, hseq, htime ▸ State.returnedAs_returnedEnd 0 _ _,
      fun id hne => State.returnedEnd_bank_ne 0 _ _ hne, hdose ▸ hcloses, by rw [hdose]; exact hrate, hmotion, honly, hrisen, hselected,
      hawaiting, hstrobing⟩
  · refine (exec_of_whileRunning hrun rfl).trans (congrArg Host.Outcome.next ?_)
    cases hd : s.dose.darkWindow with
    | running => exact absurd hd hdark
    | stopped | spent => rfl
  · exact (exec_of_whileRunning hrun rfl).trans (by simp only [htimer])

end Sys2Proof.Machine

/-! Removal ends (O9): a job whose master has lost its plate ends so, whichever event is taken first. -/

namespace Sys2Proof.Machine

/-- A removal end, before the raster stream goes on. -/
def State.removedEnd (s : State) (j : Job) : State :=
  ((if s.seq.path = .preparing then s.abandonPreparation else s.closeShutter).dropJob .faulted .plateRemoved).freeBank j.bank

theorem State.endRemoved_eq (s : State) (j : Job) : s.endRemoved j = (s.removedEnd j).streamGo := rfl

theorem State.endsRemoved_removedEnd (s : State) (j : Job) (hpath : s.seq.path = .preparing ∨ s.seq.path = .exposing) :
    s.endsRemoved (s.removedEnd j) j := by
  rcases hpath with hpath | hpath
  · have hend : s.removedEnd j = (s.abandonPreparation.dropJob .faulted .plateRemoved).freeBank j.bank := by
      rw [State.removedEnd, if_pos hpath]
    rw [hend]
    refine ⟨rfl, ?_, fun h => absurd (hpath.symm.trans h) nofun, fun _ => ⟨rfl, rfl⟩⟩
    rw [hpath]
    cases j.bank <;> rfl
  · have hend : s.removedEnd j = (({ s with dose := s.dose.close } : State).dropJob .faulted .plateRemoved).freeBank j.bank := by
      rw [State.removedEnd, if_neg (by rw [hpath]; decide), State.closeShutter, if_pos hpath]
    obtain ⟨hcloses, hrate⟩ := DoseUnit.closesTo_close s.dose s.dose.darkWindow s.dose.rate
    rw [hend]
    refine ⟨rfl, ?_, fun _ => ⟨hcloses, hrate, rfl⟩, fun h => absurd (hpath.symm.trans h) nofun⟩
    rw [hpath]
    cases j.bank <;> rfl

/-- In PREPARING a removal end looks at nothing that a readiness report changes. -/
theorem State.removedEnd_of_preparing {s : State} (j : Job) (hpath : s.seq.path = .preparing) :
    s.removedEnd j = (s.abandonPreparation.dropJob .faulted .plateRemoved).freeBank j.bank := by
  rw [State.removedEnd, if_pos hpath]

/-- The second readiness report, or the end of the gate that held the shutter, ends the job. -/
theorem State.tryOpen_of_gone {s : State} {j : Job} (hpath : s.seq.path = .preparing) (hjob : s.seq.job = some j) (harrived : j.arrived = true)
    (hready : j.panelReady = true) (hgate : s.dose.gateRuns = false) (hplate : s.jobPlateGone j = true) :
    s.tryOpen = ((s.abandonPreparation.dropJob .faulted .plateRemoved).freeBank j.bank).streamGo := by
  have hend : s.tryOpen = s.endRemoved j := by
    unfold State.tryOpen
    split
    next j' _ hjob' =>
      obtain rfl : j = j' := Option.some.inj (hjob.symm.trans hjob')
      exact (if_pos ⟨harrived, hready, hgate⟩).trans (if_pos hplate)
    next h => exact absurd hjob (h j hpath)
  rw [hend, State.endRemoved_eq, State.removedEnd_of_preparing j hpath]

/-- The dose unit after a gate (R139). -/
theorem DoseUnit.endGate_eq (d : DoseUnit) (f : Bool) :
    d.endGate f = { d with
      counter := .idle, rate := BitVec.ofNat 16 (min 65535 d.count), calibration := .none, gateTimer := false,
      reference := if f then BitVec.ofNat 16 (min 65535 d.count) else d.reference, duty := d.heldDuty.getD d.duty, heldDuty := none } := by
  rw [DoseUnit.endGate, DoseUnit.applyHeld_keeps]

theorem DoseUnit.countPulse_of_integrating {d : DoseUnit} (h : d.counter = .integrating) :
    d.countPulse = { d with count := d.count + 1, darkWindow := .spent } := by
  simp only [DoseUnit.countPulse, h]

/-- The events that end a job in PREPARING, each with the state that it finds or has made before the end. -/
def State.endsPreparing (s : State) (j : Job) (c : Instr) (base : State) : Prop :=
  (c = .shutterOpen ∧ j.arrived = true ∧ j.panelReady = true ∧ s.dose.gateRuns = false ∧ base = s) ∨
    (c = .panelReady ∧ s.panel.awaiting = true ∧ j.arrived = true ∧ s.dose.gateRuns = false ∧ base = s) ∨
    (c = .inPosition ∧ s.motion.port = .moving ∧ j.panelReady = true ∧ s.dose.gateRuns = false ∧
      base = { s with motion := { s.motion with
        port := .idle, target := none, moveTimer := false, turret := s.motion.target.map (fun m => m.turret) } }) ∨
    (∃ f, c = .gateEnd ∧ s.dose.calibration = .running f ∧ j.arrived = true ∧ j.panelReady = true ∧
      base = { s with dose := { s.dose with
        counter := .idle, rate := BitVec.ofNat 16 (min 65535 s.dose.count), calibration := .none, gateTimer := false,
        reference := if f then BitVec.ofNat 16 (min 65535 s.dose.count) else s.dose.reference,
        duty := s.dose.heldDuty.getD s.dose.duty, heldDuty := none } }) ∨
    (s.motion.port = .moving ∧ (c = .motionFault ∨ c = .moveTimerExpiry ∧ s.motion.moveTimer = true) ∧
      base = { s with motion := { s.motion with port := .idle, target := none, moveTimer := false, turret := none } }) ∨
    (c = .panelTimeout ∧ s.seq.panelTimer = true ∧ base = s)

/-- The events that end a job in EXPOSING. -/
def State.endsExposing (s : State) (j : Job) (c : Instr) (base : State) : Prop :=
  (∃ ms, (c = .photoPulse ms ∨ c = .countReachesT ms) ∧ s.dose.counter = .integrating ∧ j.target ≤ s.dose.count + 1 ∧
      base = { s with dose := { s.dose with count := s.dose.count + 1, darkWindow := .spent } }) ∨
    (c = .limitExpiry ∧ s.dose.limitTimer = true ∧ base = s) ∨
    (c = .lampDarkExpiry ∧ s.dose.darkWindow = .running ∧ base = s)

section
variable {s base : State} {j : Job} {c : Instr} (hrun : s.sup.phase = .running) (hjob : s.seq.job = some j) (hplate : s.jobPlateGone j = true)
include hrun hjob hplate

theorem exec_of_endsPreparing (hpath : s.seq.path = .preparing) (hc : s.endsPreparing j c base) :
    exec c s = .next (base.removedEnd j).streamGo ∧ s.pathChangesOnly base ∧ base.seq = s.seq := by
  rcases hc with ⟨rfl, harrived, hready, hgate, rfl⟩ | ⟨rfl, hawait, harrived, hgate, rfl⟩ | ⟨rfl, hport, hready, hgate, rfl⟩ |
      ⟨f, rfl, hcal, harrived, hready, hbase⟩ | ⟨hport, hc, rfl⟩ | ⟨rfl, htimer, rfl⟩
  · refine ⟨?_, rfl, rfl⟩
    rw [State.removedEnd_of_preparing j hpath]
    exact (exec_of_whileRunning hrun rfl).trans (congrArg Host.Outcome.next
      (State.tryOpen_of_gone hpath hjob harrived hready hgate hplate))
  · refine ⟨?_, rfl, rfl⟩
    rw [State.removedEnd_of_preparing j hpath]
    refine (exec_of_whileRunning hrun rfl).trans (congrArg Host.Outcome.next ((if_pos hawait).trans ?_))
    exact (State.reportPanelReady_of_preparing (s := { base with panel := { base.panel with awaiting := false } }) hpath hjob).trans
      (State.tryOpen_of_gone (s := { base with
        panel := { base.panel with awaiting := false }, seq := { base.seq with job := some { j with panelReady := true }, panelTimer := false } })
        (j := { j with panelReady := true }) hpath rfl harrived rfl hgate hplate)
  · refine ⟨?_, rfl, rfl⟩
    rw [State.removedEnd_of_preparing j (by exact hpath), exec_inPosition_of_moving hrun hport hpath hjob rfl]
    exact congrArg Host.Outcome.next (State.tryOpen_of_gone (s := { s with
      motion := s.motion.finish s.motion.targetTurret, seq := { s.seq with job := some { j with arrived := true } } })
      (j := { j with arrived := true }) hpath rfl rfl hready hgate hplate)
  · rw [← DoseUnit.endGate_eq] at hbase
    have hexec : exec .gateEnd s = .next base.tryOpen.takeJob :=
      (exec_of_whileRunning hrun rfl).trans (by simp only [hcal, hbase])
    have honly : s.pathChangesOnly base := by rw [hbase]; rfl
    have hseq : base.seq = s.seq := by rw [hbase]
    have hgone : base.jobPlateGone j = true := by rw [hbase]; exact hplate
    have hgate : base.dose.gateRuns = false := by rw [hbase, DoseUnit.endGate_eq, DoseUnit.gateRuns]
    have hprep : base.seq.path = .preparing := by rw [hseq, hpath]
    refine ⟨?_, honly, hseq⟩
    rw [hexec, State.tryOpen_of_gone hprep (by rw [hseq, hjob]) harrived hready hgate hgone,
      State.removedEnd_of_preparing j hprep]
    refine congrArg Host.Outcome.next ((State.thenTakes_takeJob _ ?_).2 (.inl ?_))
    · rw [(State.streamGo_latches _).phase]
      exact (congrArg Supervision.phase (State.pathChangesOnly_frame honly).1).trans hrun
    · obtain ⟨-, -, -, -, -, hstopped, -⟩ :=
        ((base.abandonPreparation.dropJob .faulted .plateRemoved).freeBank j.bank).streamGo_keeps
      rw [hstopped]
      exact nofun
  · refine ⟨?_, rfl, rfl⟩
    have hfault : ∀ why, ({ s with motion := s.motion.finish none } : State).preparationFault why =
        ({ s with motion := s.motion.finish none } : State).endRemoved j := fun why =>
      State.preparationFault_of_gone (s := { s with motion := s.motion.finish none }) why hpath hjob hplate
    rcases hc with rfl | ⟨rfl, htimer⟩
    · exact (exec_motionFault_of_moving hrun hport).trans (congrArg Host.Outcome.next (hfault _))
    · exact (exec_moveTimerExpiry_of_moving hrun hport htimer).trans (congrArg Host.Outcome.next (hfault _))
  · exact ⟨(exec_panelTimeout hrun htimer).trans (congrArg Host.Outcome.next (State.preparationFault_of_gone _ hpath hjob hplate)), rfl, rfl⟩

theorem exec_of_endsExposing (hpath : s.seq.path = .exposing) (hc : s.endsExposing j c base) :
    exec c s = .next (base.removedEnd j).streamGo ∧ s.pathChangesOnly base ∧ base.seq = s.seq := by
  rcases hc with ⟨ms, hc, hint, hreach, rfl⟩ | ⟨rfl, htimer, rfl⟩ | ⟨rfl, hdark, rfl⟩
  · refine ⟨?_, rfl, rfl⟩
    have hend : s.reachTarget j ms.val =
        ({ s with dose := { s.dose with count := s.dose.count + 1, darkWindow := .spent } } : State).endRemoved j := by
      rw [State.reachTarget, if_pos hplate, DoseUnit.countPulse_of_integrating hint]
    rcases hc with rfl | rfl
    · refine (congrArg Host.Outcome.next (s.whileRunning_of_running _ hrun)).trans (congrArg Host.Outcome.next (Eq.trans ?_ hend))
      simp only [State.pulse, hint, hpath, hjob]
      exact if_pos hreach
    · refine (exec_of_whileRunning hrun rfl).trans (congrArg Host.Outcome.next (Eq.trans ?_ hend))
      simp only [hint, hpath, hjob]
      exact if_pos hreach
  · refine ⟨(exec_of_whileRunning hrun rfl).trans (congrArg Host.Outcome.next ?_), rfl, rfl⟩
    simp only [htimer, hpath, hjob]
    exact if_pos hplate
  · refine ⟨(exec_of_whileRunning hrun rfl).trans (congrArg Host.Outcome.next ?_), rfl, rfl⟩
    simp only [hdark, hpath, hjob]
    exact if_pos hplate

theorem exec_removalReport {rest : List Slot} (hpath : s.seq.path = .preparing ∨ s.seq.path = .exposing)
    (hreports : s.removalReports = j.slot :: rest) :
    exec .plateRemovalReport s = .next (({ s with removalReports := rest } : State).removedEnd j).streamGo := by
  refine (congrArg Host.Outcome.next (s.whileRunning_of_running _ hrun)).trans (congrArg Host.Outcome.next ?_)
  have htaken : s.takeRemovalReport = if j.slot = j.slot ∧ s.jobPlateGone j = true then
      ({ s with removalReports := rest } : State).endRemoved j else { s with removalReports := rest } := by
    rcases hpath with hpath | hpath <;> simp only [State.takeRemovalReport, hreports, hpath, hjob]
  exact htaken.trans (if_pos ⟨rfl, hplate⟩)

theorem exec_attention_of_gone (ms : OpenMs) (hpath : s.seq.path = .preparing ∨ s.seq.path = .exposing) (hflush : s.pins.flush = false) :
    exec (.attention ms) s = .next (({ s with pins := { s.pins with attention := true } } : State).removedEnd j).streamGo := by
  refine (exec_attention hrun ms hflush).trans (congrArg Host.Outcome.next ?_)
  rcases hpath with hpath | hpath
  · exact (State.attentionPath_of_preparing (s := { s with pins := { s.pins with attention := true } }) _ hpath hjob).trans (if_pos hplate)
  · exact (State.attentionPath_of_exposing (s := { s with pins := { s.pins with attention := true } }) _ hpath hjob).trans (if_pos hplate)

end

/-- A report that finds no job of its slot without a plate only leaves the queue. -/
theorem State.takeRemovalReport_of_other {s : State} {sl : Slot} {rest : List Slot} (hreports : s.removalReports = sl :: rest)
    (h : ∀ j ∈ s.seq.job, j.slot = sl → s.jobPlateGone j = false) : s.takeRemovalReport = { s with removalReports := rest } := by
  simp only [State.takeRemovalReport, hreports]
  split
  next j _ hjob => exact if_neg fun ⟨hslot, hgone⟩ => Bool.false_ne_true ((h j hjob hslot).symm.trans hgone)
  next j _ hjob => exact if_neg fun ⟨hslot, hgone⟩ => Bool.false_ne_true ((h j hjob hslot).symm.trans hgone)
  · rfl

/-- Settles O9. -/
theorem removalReportEndsTheJob : Obligations.RemovalReportEndsTheJob := by
  refine ⟨fun sl rest s hrun hreports h => (congrArg Host.Outcome.next (s.whileRunning_of_running _ hrun)).trans
    (congrArg Host.Outcome.next (State.takeRemovalReport_of_other hreports h)), fun j c s base hrun hjob hplate hfits hc => ?_⟩
  have hends : exec c s = .next (base.removedEnd j).streamGo ∧ base.sup = s.sup ∧ base.raster = s.raster ∧
      (base.seq.path = .preparing ∨ base.seq.path = .exposing) := by
    rcases hc with ⟨hpath, ⟨rest, rfl, hreports, rfl⟩ | ⟨ms, rfl, hflush, rfl⟩⟩ | ⟨hpath, hc⟩ | ⟨hpath, hc⟩
    · exact ⟨exec_removalReport hrun hjob hplate hpath hreports, rfl, rfl, hpath⟩
    · exact ⟨exec_attention_of_gone hrun hjob hplate ms hpath hflush, rfl, rfl, hpath⟩
    · obtain ⟨hexec, honly, hseq⟩ := exec_of_endsPreparing hrun hjob hplate hpath hc
      obtain ⟨hsup, hraster⟩ := State.pathChangesOnly_frame honly
      exact ⟨hexec, hsup, hraster, .inl (by rw [hseq, hpath])⟩
    · obtain ⟨hexec, honly, hseq⟩ := exec_of_endsExposing hrun hjob hplate hpath hc
      obtain ⟨hsup, hraster⟩ := State.pathChangesOnly_frame honly
      exact ⟨hexec, hsup, hraster, .inr (by rw [hseq, hpath])⟩
  obtain ⟨hexec, hsup, hraster, hpath⟩ := hends
  have hend := base.endsRemoved_removedEnd j hpath
  have hsame : (base.removedEnd j).sup = s.sup ∧ (base.removedEnd j).raster = s.raster := by
    rw [hend.1]
    exact ⟨hsup, hraster⟩
  exact ⟨_, _, hexec, State.thenExamines_streamGo _ (by rw [hsame.1]; exact hrun)
    (State.streamFits_congr hfits (congrArg _ hsame.2) (congrArg _ hsame.2) (congrArg _ hsame.2)), hend⟩

end Sys2Proof.Machine

/-! The raster port between rasters: direction and listings (O40), FLUSH (O38, O39). -/

namespace Sys2Proof.Machine

/-! ## Direction (R85, R89) -/

section
variable {s : State}

theorem State.turnOutbound_of_boundary (hpin : s.pins.dir = true) (hdir : s.raster.direction = .inbound) (hdecoder : s.raster.decoder = .header)
    (hfifo : s.raster.fifo = []) (hlone : s.raster.loneHalf = none) :
    s.turnOutbound = { s with raster := { s.raster with direction := .outbound } } :=
  if_pos ⟨hpin, hdir, hdecoder, hfifo, hlone⟩

theorem State.turnOutbound_of_unready
    (h : s.pins.dir = false ∨ s.raster.direction = .outbound ∨ s.raster.decoder ≠ .header ∨ s.raster.fifo ≠ [] ∨ s.raster.loneHalf ≠ none) :
    s.turnOutbound = s := by
  refine if_neg fun ⟨hpin, hdir, hdecoder, hfifo, hlone⟩ => ?_
  rcases h with h | h | h | h | h
  · exact Bool.false_ne_true (h.symm.trans hpin)
  · exact nomatch h.symm.trans hdir
  · exact h hdecoder
  · exact h hfifo
  · exact h hlone

/-- Both commands that ask for the outbound direction turn the port and begin a listing. -/
theorem exec_of_turning {c : Instr} {s0 : State} (hrun : s.sup.phase = .running)
    (hc : (c = .dirRise ∧ s0 = { s with pins := { s.pins with dir := true } }) ∨ (c = .directionOutbound ∧ s0 = s)) :
    exec c s = .next s0.turnAndList ∧ s0.sup.phase = .running ∧ s0.raster = s.raster := by
  rcases hc with ⟨rfl, rfl⟩ | ⟨rfl, rfl⟩
  · exact ⟨congrArg Host.Outcome.next (State.whileRunning_of_running { s with pins := { s.pins with dir := true } } _ hrun), hrun, rfl⟩
  · exact ⟨congrArg Host.Outcome.next (State.whileRunning_of_running _ _ hrun), hrun, rfl⟩

theorem exec_dirFall (hrun : s.sup.phase = .running) :
    exec .dirFall s = .next { ({ s with pins := { s.pins with dir := false } } : State).abandonListing with
      raster := { ({ s with pins := { s.pins with dir := false } } : State).abandonListing.raster with direction := .inbound } } :=
  congrArg Host.Outcome.next (State.whileRunning_of_running { s with pins := { s.pins with dir := false } } _ hrun)

theorem State.abandonListing_of_listing (h : s.raster.decoder = .listing) :
    s.abandonListing = { s with raster := { s.raster with
      fifo := [], decoder := .header, place := .empty, buffer := none, lowSent := false } } := if_pos h

theorem State.abandonListing_of_ne (h : s.raster.decoder ≠ .listing) : s.abandonListing = s := if_neg h

/-! ## Listings (R86 to R88) -/

/-- The copy of the index list that a listing sends (R87). -/
def State.listingOf (s : State) (sl : Slot) : ListingBuffer :=
  { slot := sl, generation := (s.master sl).generation, entries := s.indexList sl, loaded := 0 }

theorem State.beginListing_of_queued {sl : Slot} (hplace : s.raster.place = .queued sl) (hdir : s.raster.direction = .outbound)
    (hdecoder : s.raster.decoder = .header) :
    s.beginListing = { s with raster := { s.raster with
      fifo := (s.listingOf sl).words.take 64, decoder := .listing, place := .inProgress sl, lowSent := false,
      buffer := some { s.listingOf sl with loaded := min 64 (s.listingOf sl).words.length } } } := by
  unfold State.beginListing
  split
  next sl' hplace' =>
    obtain rfl : sl = sl' := by simpa [hplace] using hplace'
    exact if_pos ⟨hdir, hdecoder⟩
  next hplace' => exact nomatch hplace.symm.trans hplace'
  next hplace' => exact nomatch hplace.symm.trans hplace'

theorem State.listingOf_words (sl : Slot) :
    (s.listingOf sl).words = [(0x6B2D : Half) ++ (4 : Byte) ++ BitVec.ofNat 8 sl.val,
        (s.master sl).generation ++ BitVec.ofNat 16 (s.recordsOf sl).length] ++
      (s.recordsOf sl).flatMap (fun r => [r.key.account.extractLsb' 8 32,
        r.key.account.extractLsb' 0 8 ++ r.key.cycle ++ r.key.page ++ BitVec.ofNat 8 r.cell, (0 : BitVec 24) ++ r.state.mark.code]) := by
  simp only [ListingBuffer.words, State.listingOf, State.indexList, List.flatMap_map, List.length_map]
  rfl

theorem length_flatMap_three {α β : Type} (l : List α) (f : α → List β) (hf : ∀ a, (f a).length = 3) : (l.flatMap f).length = 3 * l.length := by
  induction l with
  | nil => rfl
  | cons a rest ih => rw [List.flatMap_cons, List.length_append, hf, ih, List.length_cons]; omega

theorem State.listingOf_length (sl : Slot) : (s.listingOf sl).words.length = 2 + 3 * (s.recordsOf sl).length := by
  rw [State.listingOf_words, List.length_append, length_flatMap_three _ _ fun _ => rfl]
  rfl

/-- A half-word offered (R87, R88). -/
theorem State.dataOut_of_offer {w : Word} {rest : List Word} (hready : s.ready = true) (hdir : s.raster.direction = .outbound)
    (hfifo : s.raster.fifo = w :: rest) :
    s.dataOut = some (if s.raster.lowSent then w.extractLsb' 16 16 else w.extractLsb' 0 16) := by
  simp only [State.dataOut, hfifo, hready, hdir, decide_true, Bool.and_self, if_true]

theorem exec_halfWordOut {w : Word} {rest : List Word} (hready : s.ready = true) (hdir : s.raster.direction = .outbound)
    (hfifo : s.raster.fifo = w :: rest) :
    exec .halfWordOut s = .next (if s.raster.lowSent = true then ({ s with raster := { s.raster with strobed := true } } : State).nextWordOut rest
      else { s with raster := { s.raster with strobed := true, lowSent := true } }) := by
  refine congrArg Host.Outcome.next ((if_pos ⟨hready, hdir⟩).trans ?_)
  rw [hfifo]

/-- The last half of a word sent: the next word of the listing is loaded, or the listing ends. -/
theorem State.nextWordOut_of_buffer {buf : ListingBuffer} (hbuffer : s.raster.buffer = some buf) (rest : List Word) :
    (∀ next, buf.words[buf.loaded]? = some next → s.nextWordOut rest = { s with raster := { s.raster with
      fifo := rest ++ [next], lowSent := false, buffer := some { buf with loaded := buf.loaded + 1 } } }) ∧
    (buf.words.length ≤ buf.loaded → rest ≠ [] → s.nextWordOut rest = { s with raster := { s.raster with fifo := rest, lowSent := false } }) ∧
    (buf.words.length ≤ buf.loaded → rest = [] → s.nextWordOut rest = { s with raster := { s.raster with
      fifo := [], decoder := .header, place := .empty, buffer := none, lowSent := false } }) := by
  have hnext : ∀ next, next = (buf.words.drop buf.loaded).take 1 → s.nextWordOut rest = if rest ++ next = [] then
      { s with raster := { s.raster with fifo := [], decoder := .header, place := .empty, buffer := none, lowSent := false } }
      else { s with raster := { s.raster with fifo := rest ++ next, lowSent := false,
                                              buffer := some { buf with loaded := buf.loaded + next.length } } } := by
    rintro next rfl
    simp only [State.nextWordOut, hbuffer]
  refine ⟨fun next h => ?_, fun hlen hrest => ?_, fun hlen hrest => ?_⟩
  · rw [hnext [next] (by rw [List.take_one, List.head?_drop, h]; rfl)]
    exact if_neg (by simp)
  · rw [hnext [] (by rw [List.drop_eq_nil_of_le hlen]; rfl), if_neg (by simpa using hrest), List.append_nil]
    exact congrArg (fun b => { s with raster := { s.raster with fifo := rest, lowSent := false, buffer := b } }) hbuffer.symm
  · rw [hnext [] (by rw [List.drop_eq_nil_of_le hlen]; rfl)]
    exact if_pos (by simpa using hrest)

end

/-- Settles O40. -/
theorem directionAndListings : Obligations.DirectionAndListings := by
  refine ⟨fun s hrun => ⟨fun c s0 hc => ?_, fun h => ?_, fun hdecoder => ?_, fun hdecoder => ?_⟩,
    fun sl s hrun hplace hdir hdecoder => ?_, fun w rest buf s hrun hdir hdecoder hflush hfifo hbuffer => ?_⟩
  · obtain ⟨hexec, hrun0, hraster⟩ := exec_of_turning hrun hc
    rw [hexec, ← hraster]
    refine ⟨fun hpin hdir hdecoder hfifo hlone => ⟨_, rfl, ?_⟩, fun h hdir => ?_, fun hdir => ⟨_, rfl, ?_⟩⟩
    · rw [State.turnAndList, State.turnOutbound_of_boundary hpin hdir hdecoder hfifo hlone]
      exact State.thenLists_beginListing _ hrun0
    · rw [State.turnAndList, State.turnOutbound_of_unready (h.imp_right .inr)]
      exact congrArg Host.Outcome.next ((s0.thenLists_beginListing hrun0).2 (.inr (.inl hdir)))
    · rw [State.turnAndList, State.turnOutbound_of_unready (.inr (.inl hdir))]
      exact s0.thenLists_beginListing hrun0
  · have hlists := s.thenLists_beginListing hrun
    exact hlists.1.trans (congrArg Host.Outcome.next (hlists.2 h))
  · rw [exec_dirFall hrun, State.abandonListing_of_ne (by exact hdecoder)]
  · rw [exec_dirFall hrun, State.abandonListing_of_listing (by exact hdecoder)]
  · refine ⟨_, { s.listingOf sl with loaded := min 64 (s.listingOf sl).words.length }, (s.thenLists_beginListing hrun).1, ?_⟩
    rw [State.beginListing_of_queued hplace hdir hdecoder]
    exact ⟨rfl, rfl, rfl, rfl, State.listingOf_words sl, State.listingOf_length sl, rfl, List.length_take.symm, rfl⟩
  · have hready : s.ready = true := (State.ready_iff hrun).mpr ⟨hflush, .inr ⟨hdir, hdecoder, by rw [hfifo]; exact List.cons_ne_nil _ _⟩⟩
    rw [State.dataOut_of_offer hready hdir hfifo, exec_halfWordOut hready hdir hfifo]
    refine ⟨fun hlow => ?_, fun hlow => ?_⟩
    · rw [hlow]
      exact ⟨rfl, rfl⟩
    · rw [hlow]
      obtain ⟨hmore, hlast, hend⟩ :=
        State.nextWordOut_of_buffer (s := { s with raster := { s.raster with strobed := true } }) hbuffer rest
      exact ⟨rfl, fun next h => congrArg Host.Outcome.next (hmore next h), fun hlen hrest => congrArg Host.Outcome.next (hlast hlen hrest),
        fun hlen hrest => congrArg Host.Outcome.next (hend hlen hrest)⟩

/-! ## FLUSH held high (R84, R198) -/

/-- Settles O39. -/
theorem flushHoldsThePort : Obligations.FlushHoldsThePort := by
  intro s hrun
  refine ⟨fun hflush => ?_, ?_, ?_⟩
  · have hready : s.ready = false := Bool.eq_false_iff.mpr fun h => Bool.false_ne_true (((State.ready_iff hrun).mp h).1.symm.trans hflush)
    have hready' : ∀ risen, s.readyAt risen = false := fun risen => by rw [State.readyAt, hready, Bool.false_and]
    refine ⟨hready, fun edge => congrArg Host.Outcome.next (if_neg fun h => Bool.false_ne_true ((hready' _).symm.trans h.1)),
      congrArg Host.Outcome.next (if_neg fun h => Bool.false_ne_true (hready.symm.trans h.1)), fun ms => ?_⟩
    refine ⟨({ s with pins := { s.pins with attention := true } } : State).beginReset .heldByLines { s.pins with attention := true },
      congrArg Host.Outcome.next ((State.whileRunning_of_running { s with pins := { s.pins with attention := true } } _ hrun).trans (if_pos hflush)),
      rfl, State.beginReset_atResetValues _ _ _⟩
  · let p : Pins := { s.pins with attention := true, flush := true }
    exact ⟨({ s with pins := p } : State).beginReset .heldByLines p,
      congrArg Host.Outcome.next ((State.whileRunning_of_running { s with pins := p } _ hrun).trans (if_pos rfl)), rfl, rfl,
      State.beginReset_atResetValues _ _ _⟩
  · let t : State := { s with pins := { s.pins with flush := false } }
    have hready := State.ready_iff (s := t) hrun
    refine ⟨t, rfl, rfl, fun hdir => ?_, fun hdir => ?_⟩
    · have hdir' : t.raster.direction = .inbound := hdir
      rw [Bool.eq_iff_iff, hready, decide_eq_true_iff, hdir']
      simp [t]
    · have hdir' : t.raster.direction = .outbound := hdir
      rw [Bool.eq_iff_iff, hready, decide_eq_true_iff, hdir']
      simp [t]

/-! ## What a failed fill releases (R13, R47, R78, R83) -/

/-- An effect on the directory and the Master Table alone. -/
def State.ownersChangeOnly (s t : State) : Prop := t = { s with dir := t.dir, masters := t.masters }

theorem State.ownersChangeOnly_releaseBinding (v : State) (bd : Binding) : v.ownersChangeOnly (v.releaseBinding bd) := by
  unfold State.releaseBinding
  split
  · split <;> rfl
  · rfl
  · rfl

/-- What the bank was bound to is released. -/
theorem State.unbinds_releaseBinding {s v : State} (hdir : v.dir = s.dir) (hmasters : v.masters = s.masters) (bd : Binding) :
    s.unbinds (v.releaseBinding bd) bd := by
  cases bd with
  | record h =>
    have hresolve : v.resolve h = s.resolve h := by rw [State.resolve, State.resolve, hdir]
    simp only [State.releaseBinding, hresolve]
    refine ⟨?_, fun r hr => ?_⟩
    · split <;> exact hmasters
    · rw [hr]
      exact congrArg (fun d : Directory => { d with
        keyTable := changedAt r.entry (fun x => { x with state := .awaiting, bank := none }) d.keyTable }) hdir
  | index sl part =>
    have hmaster : ∀ o, v.master o = s.master o := fun o => by rw [State.master, State.master, hmasters]
    refine ⟨hdir, fun o hne => ?_, ?_⟩
    · exact (State.setMaster_master_ne v hne _).trans (hmaster o)
    · refine (State.setMaster_master_same ..).trans ?_
      rw [hmaster]
      cases hfields : (s.master sl).fields <;> simp [Master.mapFields, hfields]
  | title sl => exact ⟨hmasters, hdir⟩

/-- Only what the claim reads of a state matters. -/
theorem State.unbinds_congr {s t u : State} {bd : Binding} (h : s.unbinds t bd) (hdir : u.dir = t.dir) (hmasters : u.masters = t.masters) :
    s.unbinds u bd := by
  have hmaster : ∀ o, u.master o = t.master o := fun o => by rw [State.master, State.master, hmasters]
  cases bd with
  | record h' => exact ⟨hmasters.trans h.1, fun r hr => hdir.trans (h.2 r hr)⟩
  | index sl part => exact ⟨hdir.trans h.1, fun o hne => (hmaster o).trans (h.2.1 o hne), (hmaster sl).trans h.2.2⟩
  | title sl => exact ⟨hmasters.trans h.1, hdir.trans h.2⟩

/-! ## FLUSH (R83, R89) -/

section
variable {b : State}

theorem State.flushPort_of_idle (hfill : ∀ f, b.raster.decoder ≠ .fill f) (hlisting : b.raster.decoder ≠ .listing) :
    b.flushPort = { b with raster := { b.raster with fifo := [], loneHalf := none, decoder := .header } } := by
  have habandon : b.abandonFill = b := by
    unfold State.abandonFill
    split
    next f hd => exact absurd hd (hfill f)
    all_goals rfl
  rw [State.flushPort, habandon, State.abandonListing_of_ne hlisting]

theorem State.flushPort_of_listing (hlisting : b.raster.decoder = .listing) :
    b.flushPort = { b with raster := { b.raster with
      fifo := [], loneHalf := none, decoder := .header, place := .empty, buffer := none, lowSent := false } } := by
  have habandon : b.abandonFill = b := by simp only [State.abandonFill, hlisting]
  rw [State.flushPort, habandon, State.abandonListing_of_listing hlisting]

theorem State.flushPort_of_fill {f : Fill} (hd : b.raster.decoder = .fill f) :
    b.flushPort = { b.abandonFill with raster := { b.abandonFill.raster with fifo := [], loneHalf := none, decoder := .header } } ∧
      ((b.bank f.bank).binding = none → b.abandonFill = b.freeBank f.bank) ∧
      ∀ bd, (b.bank f.bank).binding = some bd →
        b.abandonFill = ((b.freeBank f.bank).releaseBinding bd).rasterFault .flushedMidRaster f.handle := by
  have habandon : (b.bank f.bank).binding = none → b.abandonFill = b.freeBank f.bank := fun h => by simp only [State.abandonFill, hd, h]
  have hrelease : ∀ bd, (b.bank f.bank).binding = some bd →
      b.abandonFill = ((b.freeBank f.bank).releaseBinding bd).rasterFault .flushedMidRaster f.handle := fun bd h => by
    simp only [State.abandonFill, hd, h]
  refine ⟨?_, habandon, hrelease⟩
  have hdecoder : b.abandonFill.raster.decoder ≠ .listing := by
    cases hbd : (b.bank f.bank).binding with
    | none => rw [habandon hbd, State.freeBank_raster, hd]; exact nofun
    | some bd =>
      rw [hrelease bd hbd, State.rasterFault, State.ownersChangeOnly_releaseBinding (b.freeBank f.bank) bd, State.freeBank_raster, hd]
      exact nofun
  rw [State.flushPort, State.abandonListing_of_ne hdecoder]

end

/-- Settles O38. -/
theorem flushEmptiesThePort : Obligations.FlushEmptiesThePort := by
  intro s t hrun ht
  let b : State := { s with pins := { s.pins with attention := false, flush := true } }
  have hexec : exec (.flush false) s = .next b.flushPort.turnAndList :=
    congrArg Host.Outcome.next ((b.whileRunning_of_running _ hrun).trans (if_neg Bool.false_ne_true))
  have hphase : b.flushPort.sup.phase = .running := (b.flushPort_latches).phase.trans hrun
  refine ⟨_, _, hexec, State.thenTurns_turnAndList _ hphase, fun hfill hlisting => ?_, fun hlisting => ?_, fun f hd => ?_⟩
  · rw [State.flushPort_of_idle (b := b) hfill hlisting, ht]
  · rw [State.flushPort_of_listing (b := b) hlisting, ht]
  · obtain ⟨hflush, horphan, hbound⟩ := State.flushPort_of_fill (b := b) hd
    cases hbd : (s.bank f.bank).binding with
    | none =>
      rw [hflush, horphan hbd, ht]
      exact ⟨rfl, fun _ => rfl, nofun⟩
    | some bd =>
      have hu : b.flushPort = { t with
          panel := (b.freeBank f.bank).panel, dir := ((b.freeBank f.bank).releaseBinding bd).dir,
          masters := ((b.freeBank f.bank).releaseBinding bd).masters, sup := { s.sup with ras := true },
          raster := { t.raster with faultReason := .flushedMidRaster, faultHandle := f.handle } } := by
        rw [hflush, hbound bd hbd, ht, State.rasterFault, State.ownersChangeOnly_releaseBinding (b.freeBank f.bank) bd]
        rfl
      refine ⟨?_, nofun, fun bd' hbd' => ?_⟩
      · rw [hu]
        rfl
      · obtain rfl := Option.some.inj hbd'
        refine ⟨State.unbinds_congr (State.unbinds_releaseBinding (v := b.freeBank f.bank) rfl rfl bd) ?_ ?_, ?_⟩
        · rw [hu]
        · rw [hu]
        · rw [hu]

end Sys2Proof.Machine

/-! The raster stream: half-words (O35), and the ends of fills and drains (O37). -/

namespace Sys2Proof.Machine

/-! ## Words moved into a bank (R77) -/

theorem Memory.read_write {m : List BankCell} (h : Memory.wf m) (a b : Nat) (w : Word) :
    Memory.read (Memory.write m b w) a = if a = b then w else Memory.read m a := by
  by_cases hab : a = b
  · rw [if_pos hab, hab, Memory.read_write_same m b w h.1]
  · rw [if_neg hab, Memory.read_write_other m b a w hab h.1]

/-- With neither a header to take nor one to examine, the stream consumes. -/
theorem State.streamGo_of_consuming {s : State} (hheader : s.raster.decoder ≠ .header) (hwait : s.raster.decoder ≠ .waitBank) :
    s.streamGo = s.consume := by
  rw [State.streamGo, s.takeHeader_of_ne hheader, s.examineHeader_of_ne hwait]

theorem State.streamGo_of_discard {s : State} (hd : s.raster.decoder = .discard) : s.streamGo = { s with raster := { s.raster with fifo := [] } } := by
  rw [State.streamGo_of_consuming (by rw [hd]; exact nofun) (by rw [hd]; exact nofun), State.consume, hd]

theorem State.streamGo_of_drain {s : State} {n : Nat} {w : Word} (hd : s.raster.decoder = .drain (n + 2)) (hfifo : s.raster.fifo = [w]) :
    s.streamGo = { s with raster := { s.raster with fifo := [], decoder := .drain (n + 1) } } := by
  rw [State.streamGo_of_consuming (by rw [hd]; exact nofun) (by rw [hd]; exact nofun), State.consume, hd]
  have hone : min (n + 2 - 1) [w].length = 1 := by
    rw [List.length_singleton]
    omega
  simp only [hfifo, hone]
  rfl

theorem State.streamGo_of_fill {s : State} {f : Fill} {w : Word} (hd : s.raster.decoder = .fill f) (hfifo : s.raster.fifo = [w])
    (hmore : f.count + 1 < f.words) :
    s.streamGo = { s with
      raster := { s.raster with fifo := [], decoder := .fill (f.move w) }
      panel := s.panel.setBank f.bank { s.bank f.bank with words := Memory.write (s.bank f.bank).words f.count w } } := by
  rw [State.streamGo_of_consuming (by rw [hd]; exact nofun) (by rw [hd]; exact nofun), State.consume, hd]
  simp only [State.moveFill, hfifo, moveData, hmore, if_true]
  rfl

/-- No bank is FREE. -/
theorem State.freeBankId?_of_none {s : State} (h : ∀ id, (s.bank id).state ≠ .free) : s.freeBankId? = none :=
  (if_neg (h .a)).trans (if_neg (h .b))

/-! ## Half-words (R69 to R71, R77, R79, R80) -/

section
variable {s : State} (hrun : s.sup.phase = .running)

/-- A half-word that completes a word, and the word in the FIFO. -/
def State.withWord (s : State) (data low : Half) : State :=
  { s with raster := { s.raster with strobed := true, loneHalf := none, fifo := s.raster.fifo ++ [data ++ low] } }

theorem exec_halfWordIn_of_lone {data : Half} {risen : Bool} (hready : s.readyAt risen = true) (hdir : s.raster.direction = .inbound)
    (hlone : s.raster.loneHalf = none) :
    exec (.halfWordIn ⟨data, risen⟩) s = .next { s with raster := { s.raster with strobed := true, loneHalf := some data } } := by
  refine congrArg Host.Outcome.next ((if_pos ⟨hready, hdir⟩).trans ?_)
  rw [hlone]

theorem exec_halfWordIn_of_word {data low : Half} {risen : Bool} (hready : s.readyAt risen = true) (hdir : s.raster.direction = .inbound)
    (hlone : s.raster.loneHalf = some low) : exec (.halfWordIn ⟨data, risen⟩) s = .next (s.withWord data low).streamGo := by
  refine congrArg Host.Outcome.next ((if_pos ⟨hready, hdir⟩).trans ?_)
  rw [hlone]
  rfl

theorem exec_halfWordIn_of_busy {data : Half} {risen : Bool} (hready : s.readyAt risen = false) : exec (.halfWordIn ⟨data, risen⟩) s = .next s :=
  congrArg Host.Outcome.next (if_neg fun h => Bool.false_ne_true (hready.symm.trans h.1))

include hrun in
theorem exec_headerTaken (hd : s.raster.decoder = .header) : exec .headerTaken s = .next s.streamGo := by
  refine (exec_of_whileRunning hrun rfl).trans ?_
  exact congrArg Host.Outcome.next (if_pos hd)

end

/-- Settles O35. -/
theorem halfWordsMakeWords : Obligations.HalfWordsMakeWords := by
  intro data s hrun hdir
  refine ⟨fun h risen => ?_, fun hstrobed => exec_halfWordIn_of_busy (State.readyAt_fallen hstrobed),
    fun hflush hroom risen c taken hrisen hc htaken => ?_⟩
  · have hready : s.ready = false := Bool.eq_false_iff.mpr fun hready => by
      obtain ⟨hflush, ⟨-, hroom⟩ | ⟨hout, -⟩⟩ := (State.ready_iff hrun).mp hready
      · rcases h with h | h
        · exact Bool.false_ne_true (hflush.symm.trans h)
        · omega
      · exact nomatch hdir.symm.trans hout
    exact exec_halfWordIn_of_busy (by rw [State.readyAt, hready, Bool.false_and])
  subst hc htaken
  have hready : s.readyAt risen = true := by
    have h : s.ready = true := (State.ready_iff hrun).mpr ⟨hflush, .inl ⟨hdir, hroom⟩⟩
    rcases hrisen with rfl | hstrobed
    · simpa using h
    · rw [State.readyAt, h, hstrobed]
      exact Bool.or_true risen
  refine ⟨fun hlone => exec_halfWordIn_of_lone hready hdir hlone, fun low hlone => ?_⟩
  rw [exec_halfWordIn_of_word hready hdir hlone]
  have htaken : s.raster.fifo = [] → ({ s.raster with strobed := true, loneHalf := none, fifo := [] } : RasterPort) =
      { s.raster with strobed := true, loneHalf := none } := fun hempty =>
    congrArg (fun l => ({ s.raster with strobed := true, loneHalf := none, fifo := l } : RasterPort)) hempty.symm
  have hword : s.raster.fifo = [] → (s.withWord data low).raster.fifo = [data ++ low] := fun hempty =>
    congrArg (fun l => l ++ [data ++ low]) hempty
  refine ⟨fun h => congrArg Host.Outcome.next ?_, fun hd hlen => (exec_headerTaken (s := s.withWord data low) hrun hd).symm,
    fun hd hempty => congrArg Host.Outcome.next ?_, fun hd => congrArg Host.Outcome.next ?_, fun n hd hempty => congrArg Host.Outcome.next ?_,
    fun f hd => ⟨fun hlast => congrArg Host.Outcome.next ?_, fun hmore hempty hmem => ?_⟩⟩
  · rcases h with ⟨hd, hlen⟩ | ⟨hd, hbanks⟩
    · refine State.streamGo_of_header _ hd ?_
      rw [State.withWord, List.length_append, List.length_singleton]
      omega
    · exact State.streamGo_of_waitBank _ hd (State.freeBankId?_of_none hbanks)
  · exact (State.streamGo_of_discard (s := s.withWord data low) hd).trans (congrArg (fun q => { s with raster := q }) (htaken hempty))
  · exact State.streamGo_of_fits _ (by simp [RasterPort.decoderFits, State.withWord, hd])
  · exact (State.streamGo_of_drain (s := s.withWord data low) hd (hword hempty)).trans
      (congrArg (fun q : RasterPort => { s with raster := { q with decoder := .drain (n + 1) } }) (htaken hempty))
  · refine State.streamGo_of_fits _ ?_
    have hwords : f.words = f.rows.val * 64 := rfl
    simp only [RasterPort.decoderFits, State.withWord, hd]
    exact ⟨by omega, fun _ => hlast⟩
  · refine ⟨_, congrArg Host.Outcome.next (State.streamGo_of_fill (s := s.withWord data low) hd (hword hempty) hmore),
      ?_, fun a => ?_, ?_⟩
    · exact congrArg (fun q : RasterPort => { q with decoder := .fill (f.move (data ++ low)) }) (htaken hempty)
    · refine (congrArg (fun b : Bank => Memory.read b.words a) (PanelStore.bank_setBank_same _ _ _)).trans ?_
      exact Memory.read_write ((s.memoryConsistent_iff).mp hmem f.bank) a f.count (data ++ low)
    · simp only [State.bank, PanelStore.bank_setBank_same]
      rfl

/-! ## The ends of fills and drains (R78, R80) -/

/-- What follows a raster: the next header, a job take, and a direction change (R71, R107, R85). -/
theorem State.thenGoesOn_afterRaster (t : State) (hrun : t.sup.phase = .running) (hd : t.raster.decoder = .header) : t.thenGoesOn t.afterRaster := by
  have hphase : t.streamGo.sup.phase = .running := t.streamGo_latches.phase.trans hrun
  have hphase' : t.streamGo.takeJob.sup.phase = .running := by
    obtain ⟨-, -, hsup, -⟩ := t.streamGo.takeJob_keeps
    rw [hsup]
    exact hphase
  exact ⟨_, _, t.thenTakesHeader_streamGo hrun hd, t.streamGo.thenTakes_takeJob hphase, t.streamGo.takeJob.thenTurns_turnAndList hphase'⟩

section
variable {s : State} {f : Fill}

theorem State.settleFill_of_orphan (h : (s.bank f.bank).binding = none) : s.settleFill f = s.freeBank f.bank := by
  simp only [State.settleFill, h]

theorem State.settleFill_of_mismatch {bd : Binding} (h : (s.bank f.bank).binding = some bd) (hsum : f.running ≠ f.sum) :
    s.settleFill f = ((s.freeBank f.bank).releaseBinding bd).rasterFault .sumMismatch f.handle := by
  simp only [State.settleFill, h, hsum, if_false]

/-- A fill with the header's sum loads its bank and its record. -/
theorem State.settleFill_of_sum {bd : Binding} (h : (s.bank f.bank).binding = some bd) (hsum : f.running = f.sum) :
    s.settleFill f = { s.loadBank f.bank with dir := (s.settleFill f).dir } ∧
      ((∀ k, bd ≠ .record k) → (s.settleFill f).dir = s.dir) ∧
      ∀ k r, bd = .record k → s.resolve k = some r → (s.settleFill f).dir = s.dirWith r.entry (fun x => { x with state := .loaded }) := by
  cases bd with
  | record k =>
    cases hr : s.resolve k with
    | none =>
      have heq : s.settleFill f = s.loadBank f.bank := by simp only [State.settleFill, h, hsum, hr, if_true]
      rw [heq]
      refine ⟨rfl, fun hk => absurd rfl (hk k), fun k' r hk hr' => ?_⟩
      obtain rfl : k = k' := by simpa using hk
      exact nomatch hr.symm.trans hr'
    | some r =>
      have heq : s.settleFill f = (s.loadBank f.bank).mapRecord r.entry (fun x => { x with state := .loaded }) := by
        simp only [State.settleFill, h, hsum, hr, if_true]
      rw [heq]
      refine ⟨rfl, fun hk => absurd rfl (hk k), fun k' r' hk hr' => ?_⟩
      obtain rfl : k = k' := by simpa using hk
      obtain rfl : r = r' := Option.some.inj (hr.symm.trans hr')
      rfl
  | index sl part =>
    have heq : s.settleFill f = s.loadBank f.bank := by simp only [State.settleFill, h, hsum, if_true]
    rw [heq]
    exact ⟨rfl, fun _ => rfl, nofun⟩
  | title sl =>
    have heq : s.settleFill f = s.loadBank f.bank := by simp only [State.settleFill, h, hsum, if_true]
    rw [heq]
    exact ⟨rfl, fun _ => rfl, nofun⟩

end

/-- A state whose fill has moved its last word and whose decoder has returned to HEADER. -/
def State.filled (s : State) (f : Fill) (w : Word) (rest : List Word) : State :=
  { s with raster := { s.raster with fifo := rest, decoder := .header }
           panel := s.panel.setBank f.bank { s.bank f.bank with words := Memory.write (s.bank f.bank).words f.count w } }

theorem State.filled_bank (s : State) (f : Fill) (w : Word) (rest : List Word) :
    (s.filled f w rest).bank f.bank = { s.bank f.bank with words := Memory.write (s.bank f.bank).words f.count w } :=
  PanelStore.bank_setBank_same ..

/-- Settles O37. -/
theorem fillsAndDrainsEnd : Obligations.FillsAndDrainsEnd := by
  intro w rest s hrun hfifo
  refine ⟨fun hd => ⟨_, (exec_of_whileRunning hrun rfl).trans (by simp only [hd, hfifo]), State.thenGoesOn_afterRaster _ hrun rfl⟩,
    fun f hd hlast hmem => ?_⟩
  let u : State := s.filled f w rest
  have hexec : exec .fillEnd s = .next (u.settleFill (f.move w)).afterRaster := by
    refine (exec_of_whileRunning hrun rfl).trans (congrArg Host.Outcome.next ?_)
    simp only [hd, hfifo]
    exact if_pos hlast
  have hbank : u.bank f.bank = { s.bank f.bank with words := Memory.write (s.bank f.bank).words f.count w } := s.filled_bank f w rest
  have hread : ∀ a, Memory.read (u.bank f.bank).words a = if a = f.count then w else Memory.read (s.bank f.bank).words a := fun a => by
    rw [hbank]
    exact Memory.read_write (s.memoryConsistent_iff.mp hmem f.bank) a f.count w
  have hbinding : (u.bank f.bank).binding = (s.bank f.bank).binding := by rw [hbank]
  have hsettled : (u.settleFill (f.move w)).sup.phase = .running ∧ (u.settleFill (f.move w)).raster.decoder = .header := by
    refine ⟨((u.settleFill_latches (f.move w)).phase).trans hrun, ?_⟩
    rcases u.settleFill_raster (f.move w) with h | ⟨why, k, h⟩ <;> rw [h] <;> rfl
  refine ⟨u.settleFill (f.move w), _, u, hexec, State.thenGoesOn_afterRaster _ hsettled.1 hsettled.2, hread, fun row word => ?_, ?_,
    fun hnone => ?_, fun bd hbd => ⟨fun hsum => ?_, fun hsum => ?_⟩⟩
  · rw [Bank.shownWord, hread, hbank]
    rfl
  · rw [hbank]
    rfl
  · rw [State.settleFill_of_orphan (f := f.move w) (hbinding.trans hnone)]
    exact ⟨rfl, rfl⟩
  · obtain ⟨hload, hother, hrecord⟩ := State.settleFill_of_sum (f := f.move w) (hbinding.trans hbd) hsum
    have hqueue : u.panel.queue = s.panel.queue := s.panel.setBank_queue ..
    refine ⟨(congrArg State.panel hload).trans ?_, ?_, hother, hrecord⟩
    · exact congrArg (fun q => { u.panel.setBank f.bank { u.bank f.bank with state := .loaded } with queue := q ++ [f.bank] }) hqueue
    rw [hload]
    rfl
  · have hmismatch : u.settleFill (f.move w) = ((u.freeBank f.bank).releaseBinding bd).rasterFault .sumMismatch f.handle :=
      State.settleFill_of_mismatch (f := f.move w) (hbinding.trans hbd) hsum
    rw [hmismatch, State.rasterFault, State.ownersChangeOnly_releaseBinding (u.freeBank f.bank) bd]
    refine ⟨rfl, ?_, rfl, rfl, rfl⟩
    exact State.unbinds_congr (State.unbinds_releaseBinding (v := u.freeBank f.bank) rfl rfl bd) rfl rfl

end Sys2Proof.Machine

/-! Headers (O36): when one is taken and examined, what each verdict leaves, and the words behind it. -/

namespace Sys2Proof.Machine

/-! ## The stream over the words of the FIFO -/

/-- The FIFO with other words in it. -/
def State.withFifo (s : State) (l : List Word) : State := { s with raster := { s.raster with fifo := l } }

/-- A word more in the FIFO. -/
def State.push (s : State) (x : Word) : State := s.withFifo (s.raster.fifo ++ [x])

/-- The verdict on a header, and what it does, look at neither the FIFO nor the decoder. -/
theorem State.settleHeader_withFifo (s : State) (d : Decoder) (l : List Word) (id : BankId) (h : Header) (v : Verdict) :
    ({ s with raster := { s.raster with fifo := l, decoder := d } } : State).settleHeader id h v = (s.settleHeader id h v).withFifo l := by
  cases v with
  | bind bd =>
    cases bd with
    | record k =>
      have hresolve : ({ s with raster := { s.raster with fifo := l, decoder := d } } : State).resolve k = s.resolve k := rfl
      simp only [State.settleHeader, State.bindHeader, State.bindOwner, hresolve]
      cases s.resolve k <;> rfl
    | index sl part => rfl
    | title sl => rfl
  | drain why => rfl
  | discard why => rfl

/-- The header examined. -/
def State.examined (s : State) (id : BankId) (h : Header) : State := s.settleHeader id h (s.checkHeader h)

/-- Where a bank is FREE a header is taken and examined in one, from HEADER and from WAIT_BANK. -/
theorem State.streamGo_of_header_words {s : State} {id : BankId} {w0 w1 w2 w3 : Word} {rest : List Word}
    (hd : s.raster.decoder = .header ∨ s.raster.decoder = .waitBank) (hid : s.freeBankId? = some id)
    (hfifo : s.raster.fifo = w0 :: w1 :: w2 :: w3 :: rest) :
    s.streamGo = ((s.examined id (Header.ofWords w0 w1 w2 w3)).withFifo rest).consume := by
  have htaken : s.takeHeader = { s with raster := { s.raster with decoder := .waitBank } } := by
    rcases hd with hd | hd
    · exact if_pos ⟨hd, by rw [hfifo]; simp⟩
    · rw [s.takeHeader_of_ne (by rw [hd]; exact nofun), ← hd]
  have hexamined : ({ s with raster := { s.raster with decoder := .waitBank } } : State).examineHeader =
      (s.examined id (Header.ofWords w0 w1 w2 w3)).withFifo rest := by
    have hid' : ({ s with raster := { s.raster with decoder := .waitBank } } : State).freeBankId? = some id := hid
    unfold State.examineHeader
    rw [if_pos rfl, hid', hfifo]
    exact s.settleHeader_withFifo .waitBank rest id _ (s.checkHeader _)
  rw [State.streamGo, htaken, hexamined]

/-- A decoder that consumes words. -/
def Decoder.Consumes : Decoder → Prop
  | .fill _ | .drain _ | .discard => True
  | .header | .waitBank | .listing => False

theorem State.examined_consumes (s : State) (id : BankId) (h : Header) : (s.examined id h).raster.decoder.Consumes := by
  rw [State.examined]
  cases s.checkHeader h with
  | bind bd => rw [State.settleHeader_bind_raster]; trivial
  | drain why => trivial
  | discard why => trivial

/-! ## The words behind a header (log entry 5) -/

/-- A word behind those moved is moved after them. -/
theorem moveData_append (x : Word) (l : List Word) (f : Fill) (m : List BankCell) :
    moveData f m (l ++ [x]) = moveData (moveData f m l).1 (moveData f m l).2.1 ((moveData f m l).2.2 ++ [x]) := by
  induction l generalizing f m with
  | nil => rfl
  | cons w rest ih =>
    by_cases h : f.count + 1 < f.words
    · simp only [List.cons_append, moveData, h, if_true]
      exact ih _ _
    · simp only [List.cons_append, moveData, h, if_false]

/-- The words that a drain leaves, one more word among them. -/
theorem drain_append (left : Nat) (l : List Word) (x : Word) :
    (l ++ [x]).drop (min (left - 1) (l ++ [x]).length) =
        (l.drop (min (left - 1) l.length) ++ [x]).drop
          (min (left - min (left - 1) l.length - 1) (l.drop (min (left - 1) l.length) ++ [x]).length) ∧
      left - min (left - 1) (l ++ [x]).length = left - min (left - 1) l.length -
        min (left - min (left - 1) l.length - 1) (l.drop (min (left - 1) l.length) ++ [x]).length := by
  simp only [List.length_append, List.length_singleton, List.length_drop]
  by_cases hle : left - 1 ≤ l.length
  · have hdrained : min (left - 1) l.length = left - 1 := by omega
    have hnone : min (left - (left - 1) - 1) (l.length - (left - 1) + 1) = 0 := by omega
    have hmore : min (left - 1) (l.length + 1) = left - 1 := by omega
    rw [hdrained, hnone, hmore, List.drop_append_of_le_length hle]
    exact ⟨rfl, rfl⟩
  · have hdrained : min (left - 1) l.length = l.length := by omega
    have hone : min (left - l.length - 1) (l.length - l.length + 1) = 1 := by omega
    have hall : min (left - 1) (l.length + 1) = l.length + 1 := by omega
    rw [hdrained, hone, hall, List.drop_length, List.drop_eq_nil_of_le (by simp)]
    exact ⟨rfl, by omega⟩

theorem PanelStore.setBank_setBank (p : PanelStore) (id : BankId) (b c : Bank) : (p.setBank id b).setBank id c = p.setBank id c := by
  cases id <;> rfl

theorem State.consume_consumes {s : State} (h : s.raster.decoder.Consumes) : s.consume.raster.decoder.Consumes := by
  unfold State.consume
  split
  · trivial
  · trivial
  next hd => rw [hd]; trivial
  next hd => rw [hd] at h; exact h.elim
  next hd => rw [hd] at h; exact h.elim
  next hd => rw [hd] at h; exact h.elim

theorem State.consume_of_discard {s : State} (hd : s.raster.decoder = .discard) : s.consume = s.withFifo [] := by
  unfold State.consume
  split
  case h_3 => rfl
  all_goals
    next h => exact nomatch hd.symm.trans h

theorem State.consume_of_drain {s : State} {left : Nat} (hd : s.raster.decoder = .drain left) :
    s.consume = { s with raster := { s.raster with fifo := s.raster.fifo.drop (min (left - 1) s.raster.fifo.length)
                                                   decoder := .drain (left - min (left - 1) s.raster.fifo.length) } } := by
  rw [State.consume, hd]

theorem State.consume_of_fill {s : State} {f : Fill} (hd : s.raster.decoder = .fill f) :
    s.consume = { s with
      panel := s.panel.setBank f.bank { s.bank f.bank with words := (moveData f (s.bank f.bank).words s.raster.fifo).2.1 }
      raster := { s.raster with fifo := (moveData f (s.bank f.bank).words s.raster.fifo).2.2
                                decoder := .fill (moveData f (s.bank f.bank).words s.raster.fifo).1 } } := by
  rw [State.consume, hd]
  rfl

/-- A word behind those consumed is consumed as if it came after them. -/
theorem State.consume_withFifo_append {s : State} (h : s.raster.decoder.Consumes) (l : List Word) (x : Word) :
    (s.withFifo (l ++ [x])).consume = ((s.withFifo l).consume.push x).consume := by
  cases hd : s.raster.decoder with
  | header | waitBank | listing => rw [hd] at h; exact h.elim
  | discard =>
    have hall : ∀ k, (s.withFifo k).consume = s.withFifo [] := fun k => State.consume_of_discard hd
    rw [hall, hall]
    exact (hall [x]).symm
  | drain left =>
    obtain ⟨hdrop, hleft⟩ := drain_append left l x
    rw [State.consume_of_drain (s := s.withFifo l) hd, State.consume_of_drain (s := s.withFifo (l ++ [x])) hd,
      State.consume_of_drain (s := State.push _ x) rfl]
    exact congrArg₂ (fun k n => ({ s with raster := { s.raster with fifo := k, decoder := .drain n } } : State)) hdrop hleft
  | fill f =>
    rw [State.consume_of_fill (s := s.withFifo l) hd, State.consume_of_fill (s := s.withFifo (l ++ [x])) hd,
      State.consume_of_fill (s := State.push _ x) rfl]
    obtain ⟨hbank, -⟩ := moveData_fill l f (s.bank f.bank).words
    have happend := moveData_append x l f (s.bank f.bank).words
    have hwords : ∀ m, ((s.panel.setBank f.bank { s.bank f.bank with words := m }).bank f.bank) = { s.bank f.bank with words := m } :=
      fun m => PanelStore.bank_setBank_same ..
    simp only [State.withFifo, State.push, State.bank] at hwords happend hbank ⊢
    rw [happend, hbank, hwords, PanelStore.setBank_setBank]

/-! ## The half-word under way -/

/-- The port with another lone half, and READY's fall told otherwise. -/
def State.withLone (s : State) (lone : Option Half) (strobed : Bool) : State :=
  { s with raster := { s.raster with loneHalf := lone, strobed := strobed } }

theorem State.consume_withLone (s : State) (lone : Option Half) (strobed : Bool) :
    (s.withLone lone strobed).consume = s.consume.withLone lone strobed := by
  have hd : (s.withLone lone strobed).raster.decoder = s.raster.decoder := rfl
  unfold State.consume
  rw [hd]
  cases s.raster.decoder <;> rfl

/-- What the stream leaves alone of the port: the direction, the lone half and READY's fall. -/
def RasterPort.handling (r : RasterPort) : Direction × Option Half × Bool := (r.direction, r.loneHalf, r.strobed)

theorem State.consume_handling (s : State) : s.consume.raster.handling = s.raster.handling := by
  unfold State.consume
  split <;> rfl

theorem State.examined_handling (s : State) (id : BankId) (h : Header) : (s.examined id h).raster.handling = s.raster.handling := by
  rw [State.examined]
  cases s.checkHeader h with
  | bind bd => rw [State.settleHeader_bind_raster]; rfl
  | drain why => rfl
  | discard why => rfl

/-- A state whose lone half and READY's fall are what they are. -/
theorem State.withLone_self {s t : State} (h : t.raster.handling = s.raster.handling) : t.withLone s.raster.loneHalf s.raster.strobed = t := by
  obtain ⟨-, hlone, hstrobed⟩ : t.raster.direction = s.raster.direction ∧ t.raster.loneHalf = s.raster.loneHalf ∧
      t.raster.strobed = s.raster.strobed := by simpa [RasterPort.handling] using h
  rw [State.withLone, ← hlone, ← hstrobed]

/-! ## HEADER_TAKEN and HEADER_EXAMINATION -/

section
variable {s : State} (hrun : s.sup.phase = .running)
include hrun

theorem exec_headerExamination (hd : s.raster.decoder = .waitBank) : exec .headerExamination s = .next s.streamGo := by
  refine (exec_of_whileRunning hrun rfl).trans ?_
  exact congrArg Host.Outcome.next ((if_pos hd).trans (State.streamGo_of_waiting hd))

/-- Both commands let the stream go on. -/
theorem exec_of_header {c : Instr}
    (hc : (c = .headerTaken ∧ s.raster.decoder = .header) ∨ (c = .headerExamination ∧ s.raster.decoder = .waitBank)) :
    exec c s = .next s.streamGo ∧ (s.raster.decoder = .header ∨ s.raster.decoder = .waitBank) := by
  rcases hc with ⟨rfl, hd⟩ | ⟨rfl, hd⟩
  · exact ⟨exec_headerTaken hrun hd, .inl hd⟩
  · exact ⟨exec_headerExamination hrun hd, .inr hd⟩

/-- Without a header to take, or to examine, or a FREE bank, nothing else changes. -/
theorem exec_header_of_unoccasioned :
    (s.raster.decoder ≠ .header → exec .headerTaken s = .next s) ∧ (s.raster.fifo.length < 4 → exec .headerTaken s = .next s) ∧
     (s.raster.decoder ≠ .waitBank → exec .headerExamination s = .next s) ∧
     ((∀ which, (s.bank which).state ≠ .free) →
       (s.raster.decoder = .waitBank → exec .headerExamination s = .next s) ∧
       (s.raster.decoder = .header → 4 ≤ s.raster.fifo.length →
         exec .headerTaken s = .next { s with raster := { s.raster with decoder := .waitBank } })) := by
  have hother : s.raster.decoder ≠ .header → exec .headerTaken s = .next s := fun hd => by
    refine (exec_of_whileRunning hrun rfl).trans ?_
    exact congrArg Host.Outcome.next (if_neg hd)
  refine ⟨hother, fun hlen => ?_, fun hd => ?_, fun hbanks => ⟨fun hd => ?_, fun hd hlen => ?_⟩⟩
  · by_cases hd : s.raster.decoder = .header
    · rw [exec_headerTaken hrun hd, s.streamGo_of_header hd hlen]
    · exact hother hd
  · refine (exec_of_whileRunning hrun rfl).trans ?_
    exact congrArg Host.Outcome.next (if_neg hd)
  · rw [exec_headerExamination hrun hd, s.streamGo_of_waitBank hd (State.freeBankId?_of_none hbanks)]
  · let t : State := { s with raster := { s.raster with decoder := .waitBank } }
    have htaken : s.takeHeader = t := if_pos ⟨hd, hlen⟩
    rw [exec_headerTaken hrun hd, State.streamGo, htaken, State.streamGo_of_waiting (s := t) rfl]
    exact congrArg Host.Outcome.next (State.streamGo_of_waitBank t rfl (State.freeBankId?_of_none hbanks))

end

/-- A bank is FREE. -/
theorem State.freeBankId?_of_exists {s : State} (h : ∃ id, (s.bank id).state = .free) : ∃ id, s.freeBankId? = some id := by
  by_cases ha : s.panel.bankA.state = .free
  · exact ⟨.a, if_pos ha⟩
  · obtain ⟨id, hid⟩ := h
    cases id with
    | a => exact absurd hid ha
    | b => exact ⟨.b, (if_neg ha).trans (if_pos hid)⟩

/-- A word behind the header is consumed as if it came after it. -/
theorem State.streamGo_push {s : State} {id : BankId} {w0 w1 w2 w3 : Word} {rest : List Word}
    (hd : s.raster.decoder = .header ∨ s.raster.decoder = .waitBank) (hid : s.freeBankId? = some id)
    (hfifo : s.raster.fifo = w0 :: w1 :: w2 :: w3 :: rest) (x : Word) :
    (s.push x).streamGo = (s.streamGo.push x).consume ∧ s.streamGo.raster.decoder.Consumes ∧ s.streamGo.raster.handling = s.raster.handling := by
  let h : Header := Header.ofWords w0 w1 w2 w3
  have hconsumes := s.examined_consumes id h
  have hgo : s.streamGo = ((s.examined id h).withFifo rest).consume := State.streamGo_of_header_words hd hid hfifo
  have hpush : (s.push x).streamGo = ((s.examined id h).withFifo (rest ++ [x])).consume := by
    have hfifo' : (s.push x).raster.fifo = w0 :: w1 :: w2 :: w3 :: (rest ++ [x]) := congrArg (fun l => l ++ [x]) hfifo
    rw [State.streamGo_of_header_words (s := s.push x) hd hid hfifo']
    refine congrArg (fun v : State => (v.withFifo (rest ++ [x])).consume) ?_
      |>.trans (rfl : (((s.examined id h).withFifo (s.raster.fifo ++ [x])).withFifo (rest ++ [x])).consume = _)
    exact s.settleHeader_withFifo s.raster.decoder (s.raster.fifo ++ [x]) id h (s.checkHeader h)
  refine ⟨?_, ?_, ?_⟩
  · rw [hpush, hgo, State.consume_withFifo_append hconsumes]
  · rw [hgo]
    exact State.consume_consumes hconsumes
  · rw [hgo, State.consume_handling]
    exact s.examined_handling id h

/-- The word that a half-word completes goes on as the stream lets it (R70, R71). -/
theorem exec_halfWordIn_of_consumes {t u : State} {hi lo : Half} (hrun : t.sup.phase = .running) (hflush : t.pins.flush = false)
    (hdir : t.raster.direction = .inbound) (hroom : t.raster.fifo.length < 64) (hconsumes : t.raster.decoder.Consumes)
    (hexec : exec (.halfWordIn ⟨hi, true⟩) { t with raster := { t.raster with loneHalf := some lo } } = .next u) :
    u = (t.push (hi ++ lo)).consume.withLone none true := by
  let t' : State := { t with raster := { t.raster with loneHalf := some lo } }
  have hready : t'.readyAt true = true := by
    rw [State.readyAt_true]
    exact (State.ready_iff hrun).mpr ⟨hflush, .inl ⟨hdir, hroom⟩⟩
  have hheader : (t'.withWord hi lo).raster.decoder ≠ .header := fun hd => by
    have hd : t.raster.decoder = .header := hd
    rwa [hd] at hconsumes
  have hwait : (t'.withWord hi lo).raster.decoder ≠ .waitBank := fun hd => by
    have hd : t.raster.decoder = .waitBank := hd
    rwa [hd] at hconsumes
  rw [exec_halfWordIn_of_word hready hdir rfl, State.streamGo_of_consuming hheader hwait] at hexec
  obtain rfl := Host.Outcome.next.inj hexec
  exact State.consume_withLone (t.push (hi ++ lo)) none true

/-- The words behind a header, each as if it came after it. -/
theorem exec_header_push {hi lo : Half} {c : Instr} {s t u : State} (hrun : s.sup.phase = .running) (hfree : ∃ id, (s.bank id).state = .free)
    (hlen : 4 ≤ s.raster.fifo.length)
    (hc : (c = .headerTaken ∧ s.raster.decoder = .header) ∨ (c = .headerExamination ∧ s.raster.decoder = .waitBank))
    (hflush : s.pins.flush = false) (hdir : s.raster.direction = .inbound) (hexec : exec c s = .next t) (hroom : t.raster.fifo.length < 64)
    (hword : exec (.halfWordIn ⟨hi, true⟩) { t with raster := { t.raster with loneHalf := some lo } } = .next u) :
    exec c (s.push (hi ++ lo)) = .next (u.withLone s.raster.loneHalf s.raster.strobed) := by
  obtain ⟨hgo, hd⟩ := exec_of_header hrun hc
  obtain ⟨id, hid⟩ := State.freeBankId?_of_exists hfree
  obtain ⟨w0, w1, w2, w3, rest, hfifo⟩ : ∃ w0 w1 w2 w3 rest, s.raster.fifo = w0 :: w1 :: w2 :: w3 :: rest := by
    match hf : s.raster.fifo, hlen with
    | w0 :: w1 :: w2 :: w3 :: rest, _ => exact ⟨w0, w1, w2, w3, rest, rfl⟩
  obtain ⟨hpush, hconsumes, hhandling⟩ := State.streamGo_push hd hid hfifo (hi ++ lo)
  obtain rfl := Host.Outcome.next.inj (hgo.symm.trans hexec)
  obtain ⟨-, hpins, -⟩ := s.streamGo_keeps
  have hu := exec_halfWordIn_of_consumes (s.streamGo_latches.phase.trans hrun) (by rw [hpins]; exact hflush)
    ((congrArg Prod.fst hhandling).trans hdir) hroom hconsumes hword
  have hsame : (s.streamGo.push (hi ++ lo)).consume.raster.handling = s.raster.handling := by
    rw [State.consume_handling]
    exact hhandling
  rw [(exec_of_header (s := s.push (hi ++ lo)) hrun hc).1, hpush, hu]
  exact congrArg Host.Outcome.next (State.withLone_self hsame).symm

/-! ## Verdicts (R73 to R76) -/

/-- The fields of the header that four words carry (R72). -/
theorem Header.ofWords_append (mark handle gen rows ignored : Half) (kind slot : Byte) (sum : Word) :
    Header.ofWords (mark ++ kind ++ slot) (handle ++ gen) (rows ++ ignored) sum =
      { marker := mark, kind := kind, slot := slot, handle := handle, generation := gen, rows := rows, sum := sum } := by
  rw [Header.ofWords, BitVec.extractLsb'_append_eq_of_le (by decide), BitVec.extractLsb'_append_eq_left,
    BitVec.extractLsb'_append_eq_of_le (by decide), BitVec.extractLsb'_append_eq_right, BitVec.extractLsb'_append_eq_right,
    BitVec.extractLsb'_append_eq_left, BitVec.extractLsb'_append_eq_right, BitVec.extractLsb'_append_eq_left]

/-- Nothing is left to consume. -/
theorem State.consume_of_empty {s : State} (h : s.raster.fifo = []) : s.consume = s := by
  cases hd : s.raster.decoder with
  | header | waitBank | listing => rw [State.consume, hd]
  | discard => rw [State.consume_of_discard hd, State.withFifo, ← h]
  | drain left =>
    rw [State.consume_of_drain hd, h]
    simp only [List.length_nil, Nat.min_zero, List.drop_nil, Nat.sub_zero]
    rw [← hd, ← h]
  | fill f =>
    rw [State.consume_of_fill hd, h]
    simp only [moveData]
    rw [← hd, ← h]
    exact congrArg (fun p => { s with panel := p }) (s.panel.setBank_bank f.bank)

theorem State.freeBankId?_of_isFreeBank {s : State} {id : BankId} (h : s.isFreeBank id) : s.freeBankId? = some id := by
  cases id with
  | a => exact if_pos h
  | b => exact (if_neg h.1).trans (if_pos h.2)

/-- Four words that no others follow: what the verdict on them does. -/
theorem exec_of_header_words {s : State} {c : Instr} {id : BankId} {mark handle gen rows ignored : Half} {kind slot : Byte} {sum : Word}
    (hrun : s.sup.phase = .running) (hfifo : s.raster.fifo = [mark ++ kind ++ slot, handle ++ gen, rows ++ ignored, sum])
    (hid : s.isFreeBank id)
    (hc : (c = .headerTaken ∧ s.raster.decoder = .header) ∨ (c = .headerExamination ∧ s.raster.decoder = .waitBank)) :
    exec c s = .next ((s.examined id
      { marker := mark, kind := kind, slot := slot, handle := handle, generation := gen, rows := rows, sum := sum }).withFifo []) := by
  obtain ⟨hgo, hd⟩ := exec_of_header hrun hc
  rw [hgo, State.streamGo_of_header_words hd (State.freeBankId?_of_isFreeBank hid) hfifo, Header.ofWords_append,
    State.consume_of_empty rfl]

end Sys2Proof.Machine

/-! Header checks and what their verdicts leave (O36). -/

namespace Sys2Proof.Machine

section
variable {s : State} {id : BankId} {h : Header}

theorem State.examined_of_drain {why : RasterReason} (hv : s.checkHeader h = .drain why) :
    (s.examined id h).withFifo [] = s.refusesRaster (.drain (h.rows.toNat * 64)) why h.handle := by
  rw [State.examined, hv]
  rfl

theorem State.examined_of_discard {why : RasterReason} (hv : s.checkHeader h = .discard why) :
    (s.examined id h).withFifo [] = s.refusesRaster .discard why h.handle := by
  rw [State.examined, hv]
  rfl

theorem State.bindOwner_eq (s : State) (id : BankId) (bd : Binding) :
    s.bindOwner id bd = { s with dir := (s.bindOwner id bd).dir, masters := (s.bindOwner id bd).masters } := by
  cases bd with
  | record k =>
    unfold State.bindOwner
    dsimp only
    split <;> rfl
  | index sl part => rfl
  | title sl => rfl

theorem State.examined_of_bind {bd : Binding} {n : Fin 1537} (hv : s.checkHeader h = .bind bd) (hn : n.val = h.rows.toNat) :
    (s.examined id h).withFifo [] = { s.bindsRaster id bd n h.sum h.handle with
      dir := (s.bindOwner id bd).dir, masters := (s.bindOwner id bd).masters } := by
  have hrows : h.rowCount = n := Fin.ext ((Header.rowCount_val (by omega)).trans hn.symm)
  rw [State.examined, hv, State.settleHeader, State.bindHeader, hrows, State.bindOwner_eq s id bd]
  rfl

/-! ## The form of a header (R73) -/

theorem State.checkHeader_of_marker (hmark : h.marker ≠ 0x6B2D) : s.checkHeader h = .discard .badMarker := if_pos hmark

theorem State.checkHeader_of_rows (hmark : h.marker = 0x6B2D) (hrows : h.rows = 0 ∨ 1536 < h.rows.toNat) :
    s.checkHeader h = .discard .badRows := by
  have hbad : h.rows.toNat = 0 ∨ Config.bankRows < h.rows.toNat := hrows.imp_left fun h0 => by rw [h0]; rfl
  exact (if_neg (not_not.mpr hmark)).trans (if_pos hbad)

/-- A header of good form is checked by its kind. -/
theorem State.checkHeader_of_form (hmark : h.marker = 0x6B2D) (hrows : h.rows ≠ 0) (hlow : h.rows.toNat ≤ 1536) :
    s.checkHeader h = if h.kind = 1 then s.checkDocument h else if h.kind = 2 then s.checkIndex h else if h.kind = 3 then s.checkTitle h
      else .discard .badKind := by
  have hgood : ¬ (h.rows.toNat = 0 ∨ Config.bankRows < h.rows.toNat) := by
    rintro (h0 | hhigh)
    · exact hrows (BitVec.eq_of_toNat_eq (h0.trans rfl))
    · exact absurd hhigh (Nat.not_lt.mpr hlow)
  exact (if_neg (not_not.mpr hmark)).trans (if_neg hgood)

/-! ## Documents (R74) -/

theorem State.checkDocument_of_unresolved (hr : s.resolve h.handle = none) : s.checkDocument h = .drain .wrongHandle := by
  simp only [State.checkDocument, hr]

theorem State.checkDocument_of_resolved {r : Record} (hr : s.resolve h.handle = some r) :
    s.checkDocument h = if r.state = .awaiting ∧ ((s.master r.slot).state = .opened ∨ (s.master r.slot).state = .closing)
      then .bind (.record h.handle) else .drain .wrongState := by
  simp only [State.checkDocument, hr]

/-! ## Indexes and titles (R75, R156, R160) -/

theorem State.isBound_iff (bd : Binding) : s.isBound bd = true ↔ ∃ which, (s.bank which).binding = some bd := by
  rw [State.isBound, decide_eq_true_iff]
  refine ⟨fun hb => hb.elim (fun ha => ⟨.a, ha⟩) fun hb => ⟨.b, hb⟩, fun ⟨which, hb⟩ => ?_⟩
  cases which with
  | a => exact .inl hb
  | b => exact .inr hb

theorem State.partOpen_iff {sl : Slot} {f : MasterFields} {part : Nat} : s.partOpen sl f part = true ↔
    part < f.format.indexParts ∧ f.cells[f.format.docCells + part]? ≠ some .exposedIndex ∧
      ∀ which, (s.bank which).binding ≠ some (.index sl part) := by
  rw [State.partOpen, Bool.and_eq_true, Bool.and_eq_true, decide_eq_true_iff, decide_eq_true_iff, Bool.not_eq_true', ← Bool.not_eq_true,
    State.isBound_iff, not_exists, and_assoc]
  rfl

theorem State.checkIndex_of_slot (hslot : 5 < h.slot.toNat) : s.checkIndex h = .drain .wrongState := by
  simp only [State.checkIndex, slotOf?_of_lt hslot]

theorem State.checkIndex_of_state {sl : Slot} (hslot : h.slot.toNat = sl.val) (hsettled : (s.master sl).state ≠ .settled)
    (hindexing : (s.master sl).state ≠ .indexing) : s.checkIndex h = .drain .wrongState := by
  simp only [State.checkIndex, slotOf?_of_eq hslot]
  split
  · rfl
  · exact if_pos (not_or.mpr ⟨hsettled, hindexing⟩)

theorem State.checkIndex_of_fields {sl : Slot} {f : MasterFields} (hslot : h.slot.toNat = sl.val)
    (hstate : (s.master sl).state = .settled ∨ (s.master sl).state = .indexing) (hfields : (s.master sl).fields = some f) :
    s.checkIndex h = if s.partOpen sl f h.handle.toNat = false then .drain .wrongState
      else if h.generation = (s.master sl).generation then .bind (.index sl h.handle.toNat) else .drain .staleGeneration := by
  simp only [State.checkIndex, slotOf?_of_eq hslot, hfields]
  exact if_neg (not_not.mpr hstate)

theorem State.checkTitle_of_slot (hslot : 5 < h.slot.toNat) : s.checkTitle h = .drain .wrongState := by
  simp only [State.checkTitle, slotOf?_of_lt hslot]

theorem State.checkTitle_of_eq {sl : Slot} (hslot : h.slot.toNat = sl.val) :
    s.checkTitle h = if (s.master sl).state = .indexed ∧ s.isBound (.title sl) = false then .bind (.title sl) else .drain .wrongState := by
  simp only [State.checkTitle, slotOf?_of_eq hslot]

/-- The owner of a bound index raster (R13). -/
theorem State.bindIndex_masters {sl : Slot} {f : MasterFields} (hstate : (s.master sl).state = .settled ∨ (s.master sl).state = .indexing)
    (hfields : (s.master sl).fields = some f) :
    (s.bindIndex sl).masters = s.masters.set sl { s.master sl with
      state := .indexing, fields := some { f with indexBindings := f.indexBindings + 1 } } := by
  have hnext : (if (s.master sl).state = .settled then MasterState.indexing else (s.master sl).state) = .indexing := by
    rcases hstate with hst | hst <;> rw [hst] <;> rfl
  simp only [State.bindIndex, State.mapMaster, State.setMaster, Master.mapFields, hfields, Option.map_some, hnext]

end

/-- Settles O36: the header's form, and the checks of its kind, each with what its verdict leaves. -/
theorem headersAreExamined : Obligations.HeadersAreExamined := by
  refine ⟨fun s hrun => exec_header_of_unoccasioned hrun,
    fun hi lo c s t u hrun hfree hlen hc hflush hdir hexec hroom hword =>
      exec_header_push hrun hfree hlen hc hflush hdir hexec hroom hword,
    fun mark handle gen rows ignored kind slot sum id s hrun hfifo hid c hc => ?_,
    fun handle gen rows ignored kind slot sum id n s hrun hfifo hrows hn hid c hc => ?_, fun id bd n sum handle row word s => ?_⟩
  · rw [exec_of_header_words hrun hfifo hid hc]
    let h : Header := { marker := mark, kind := kind, slot := slot, handle := handle, generation := gen, rows := rows, sum := sum }
    have hdiscarded : ∀ why, s.checkHeader h = .discard why → Host.Outcome.next (φ := Fault) (ρ := Refusal) ((s.examined id h).withFifo []) =
        .next (s.refusesRaster .discard why handle) := fun why hv => congrArg Host.Outcome.next (State.examined_of_discard hv)
    have hrefused : ∀ why, s.checkHeader h = .drain why → Host.Outcome.next (φ := Fault) (ρ := Refusal) ((s.examined id h).withFifo []) =
        .next (s.refusesRaster (.drain (rows.toNat * 64)) why handle) := fun why hv => congrArg Host.Outcome.next (State.examined_of_drain hv)
    refine ⟨fun hmark => hdiscarded _ (State.checkHeader_of_marker hmark), fun hmark =>
      ⟨fun hrows => hdiscarded _ (State.checkHeader_of_rows hmark hrows), fun hrows hlow => ?_⟩⟩
    have hform := State.checkHeader_of_form (s := s) (h := h) hmark hrows hlow
    refine ⟨fun h1 h2 h3 => hdiscarded _ ?_, fun h1 => ?_⟩
    · exact hform.trans ((if_neg h1).trans ((if_neg h2).trans (if_neg h3)))
    have hdocument : s.checkHeader h = s.checkDocument h := hform.trans (if_pos h1)
    refine ⟨fun hr => hrefused _ (hdocument.trans (State.checkDocument_of_unresolved hr)), fun r hr => ?_⟩
    have hchecked := hdocument.trans (State.checkDocument_of_resolved hr)
    refine ⟨fun hbad => ?_, fun hawaiting hmaster n hn => ?_⟩
    · exact hrefused _ (hchecked.trans (if_neg fun hgood => hbad.elim (fun hne => hne hgood.1) fun hne => hne hgood.2))
    · refine congrArg Host.Outcome.next ((State.examined_of_bind (bd := .record handle) (n := n)
        (hchecked.trans (if_pos ⟨hawaiting, hmaster⟩)) hn).trans ?_)
      simp only [State.bindOwner, hr]
      rfl
  · rw [exec_of_header_words hrun hfifo hid hc]
    have hlow : rows.toNat ≤ 1536 := by
      have := n.isLt
      omega
    let h : Header := { marker := 0x6B2D, kind := kind, slot := slot, handle := handle, generation := gen, rows := rows, sum := sum }
    have hindex : kind = 2 → s.checkHeader h = s.checkIndex h := fun hkind =>
      (State.checkHeader_of_form rfl hrows hlow).trans ((if_neg (by rw [show h.kind = 2 from hkind]; decide)).trans (if_pos hkind))
    have htitle : kind = 3 → s.checkHeader h = s.checkTitle h := fun hkind =>
      (State.checkHeader_of_form rfl hrows hlow).trans ((if_neg (by rw [show h.kind = 3 from hkind]; decide)).trans ((if_neg (by rw [show h.kind = 3 from hkind]; decide)).trans
        (if_pos hkind)))
    have hrefused : ∀ why, s.checkHeader h = .drain why → Host.Outcome.next (φ := Fault) (ρ := Refusal) ((s.examined id h).withFifo []) =
        .next (s.refusesRaster (.drain (rows.toNat * 64)) why handle) := fun why hv => congrArg Host.Outcome.next (State.examined_of_drain hv)
    refine ⟨fun hkind hslot => hrefused _ ?_, fun sl hslot => ⟨fun hkind => ⟨fun hsettled hindexing => hrefused _ ?_, fun hstate f hfields =>
      ⟨fun hbad => hrefused _ ?_, fun hpart hcell hbound => ⟨fun hgen => hrefused _ ?_, fun hgen => ?_⟩⟩⟩, fun hkind =>
      ⟨fun hbad => hrefused _ ?_, fun hindexed hbound => ?_⟩⟩⟩
    · rcases hkind with hkind | hkind
      · exact (hindex hkind).trans (State.checkIndex_of_slot hslot)
      · exact (htitle hkind).trans (State.checkTitle_of_slot hslot)
    · exact (hindex hkind).trans (State.checkIndex_of_state hslot hsettled hindexing)
    · have hclosed : s.partOpen sl f handle.toNat = false := Bool.eq_false_iff.mpr fun hopen => by
        obtain ⟨hpart, hcell, hbound⟩ := State.partOpen_iff.mp hopen
        rcases hbad with hb | hb | ⟨which, hb⟩
        · omega
        · exact hcell hb
        · exact hbound which hb
      exact (hindex hkind).trans ((State.checkIndex_of_fields hslot hstate hfields).trans (if_pos hclosed))
    · have hopen : s.partOpen sl f handle.toNat = true := State.partOpen_iff.mpr ⟨hpart, hcell, hbound⟩
      exact (hindex hkind).trans ((State.checkIndex_of_fields hslot hstate hfields).trans
        ((if_neg fun hclosed => Bool.false_ne_true (hclosed.symm.trans hopen)).trans (if_neg hgen)))
    · have hopen : s.partOpen sl f handle.toNat = true := State.partOpen_iff.mpr ⟨hpart, hcell, hbound⟩
      refine congrArg Host.Outcome.next ((State.examined_of_bind (h := h) (bd := .index sl handle.toNat) (n := n) ((hindex hkind).trans
        ((State.checkIndex_of_fields hslot hstate hfields).trans ((if_neg fun hclosed => Bool.false_ne_true (hclosed.symm.trans hopen)).trans (if_pos hgen)))) hn).trans ?_)
      exact congrArg (fun ms => { s.bindsRaster id (.index sl handle.toNat) n sum handle with masters := ms })
        (State.bindIndex_masters hstate hfields)
    · have hno : ¬ ((s.master sl).state = .indexed ∧ s.isBound (.title sl) = false) := fun ⟨hindexed, hfree⟩ =>
        hbad.elim (fun hne => hne hindexed) fun hb => Bool.false_ne_true (hfree.symm.trans (State.isBound_iff _ |>.mpr hb))
      exact (htitle hkind).trans ((State.checkTitle_of_eq hslot).trans (if_neg hno))
    · have hfree : s.isBound (.title sl) = false := Bool.eq_false_iff.mpr fun hb => by
        obtain ⟨which, hb⟩ := State.isBound_iff _ |>.mp hb
        exact hbound which hb
      exact congrArg Host.Outcome.next (State.examined_of_bind (h := h) (bd := .title sl) (n := n) ((htitle hkind).trans
        ((State.checkTitle_of_eq hslot).trans (if_pos ⟨hindexed, hfree⟩))) hn)
  · have hbank : (s.bindsRaster id bd n sum handle).bank id = { s.bank id with state := .filling, binding := some bd, rows := n.val } :=
      PanelStore.bank_setBank_same ..
    rw [hbank]
    rfl

end Sys2Proof.Machine
